-- ==== Sys2Proof/Word.lean ====
section
/-! DEFINITION. The two data widths of CORE (spec/00_scope.md R8): 8-bit cells and bytes of memory,
16-bit cells and addresses. Everything finer (halves, bits, sign extension) is in Machine/Bits.lean. -/

namespace Sys2Proof

/-- A byte: an 8-bit cell's content, or one byte of memory (R8, R10). -/
abbrev Byte := BitVec 8

/-- A 16-bit cell's content, or an address (R8). -/
abbrev Word := BitVec 16

end Sys2Proof
end

