-- ==== Sys2Proof/Machine/Bits.lean ====
section
/-! DEFINITION. Bit fields, byte halves and sign extension (spec/00_scope.md R10, R11). -/

namespace Sys2Proof.Machine

/-- `v[15:8]` of a 16-bit value (R10, spec/10_state.md R33). -/
def hiByte (v : Word) : Byte := v.extractLsb' 8 8

/-- `v[7:0]` of a 16-bit value. -/
def loByte (v : Word) : Byte := v.extractLsb' 0 8

/-- `{h, l}`: the 16-bit value `h * 256 + l` (R10). -/
def joinBytes (h l : Byte) : Word := BitVec.ofNat 16 (h.toNat * 256 + l.toNat)

/-- `sext_8(b)`: the signed value of a byte (R11). -/
def sext8 (b : Byte) : Int := if b.toNat < 0x80 then b.toNat else (b.toNat : Int) - 256

/-- A Boolean stored in a bit: 1 for true (R17). -/
def bit (b : Bool) : Nat := if b then 1 else 0

end Sys2Proof.Machine
end

