-- ==== Sys2Proof/Syntax.lean ====
section
/-! DEFINITION. The syntax of CORE: register names, instructions (one constructor of `Instr` per row of
spec/opcode_table.json), the descriptors of spec/30_encoding.md R131, and the micro-operations, effects and
handler plans of spec/40_pipeline.md R150 to R154 and R169. -/

namespace Sys2Proof

/-- The 8-bit cells (spec/10_state.md R30): the programmer-visible ones and the latches `TH`, `TL`. -/
inductive Reg8 where
  | a | f | b | c | d | e | h | l | th | tl
  deriving DecidableEq, Repr

/-- The 16-bit names (R30, R32, spec/40_pipeline.md R151): the cells `PC`, `SP`, `BUS`, and the pair views. -/
inductive Reg16 where
  | pc | sp | bus | af | bc | de | hl | tmp
  deriving DecidableEq, Repr

/-- The registers an `r` field names (spec/30_encoding.md R116), code 6, the memory byte `(HL)`, apart. -/
inductive GReg where
  | b | c | d | e | h | l | a
  deriving DecidableEq, Repr

/-- The pairs `LD rr,d16` loads (spec/41_loads.md R200). -/
inductive Pair where
  | bc | de | hl
  deriving DecidableEq, Repr

/-- The pair code `rp` (spec/30_encoding.md R117). -/
inductive Rp where
  | bc | de | hl | sp
  deriving DecidableEq, Repr

/-- The condition code `cc` (R118). -/
inductive Cc where
  | nz | z | nc | c
  deriving DecidableEq, Repr

/-- The ALU code (R119). -/
inductive AluOp where
  | add | adc | sub | sbc | and | xor | or | cp
  deriving DecidableEq, Repr

/-- The accumulator rotates (spec/43_rotate_shift.md R260 to R263). -/
inductive RotAOp where
  | rlca | rrca | rla | rra
  deriving DecidableEq, Repr

/-- The extended-operation code (spec/30_encoding.md R120). -/
inductive CbOp where
  | rlc | rrc | rl | rr | sla | sra | swap | srl
  deriving DecidableEq, Repr

/-- The instructions, one constructor per row of spec/opcode_table.json (spec/30_encoding.md R124, R125).
`mhl` in a name is the operand `(HL)`. No constructor carries operand bytes: they are no part of what the
decode yields and are fetched by micro-operations (R131). -/
inductive Instr where
  | nop | ld_bc_d16 | inc_bc | inc_b | dec_b | ld_b_d8 | rlca | dec_bc | inc_c | dec_c | ld_c_d8 | rrca
  | ld_de_d16 | inc_de | inc_d | dec_d | ld_d_d8 | rla | jr_e8 | dec_de | inc_e | dec_e | ld_e_d8 | rra
  | jr_nz_e8 | ld_hl_d16 | inc_hl | inc_h | dec_h | ld_h_d8 | jr_z_e8 | dec_hl | inc_l | dec_l | ld_l_d8
  | jr_nc_e8 | ld_sp_d16 | inc_sp | jr_c_e8 | dec_sp | inc_a | dec_a | ld_a_d8 | ld_b_b | ld_b_c | ld_b_d
  | ld_b_e | ld_b_h | ld_b_l | ld_b_mhl | ld_b_a | ld_c_b | ld_c_c | ld_c_d | ld_c_e | ld_c_h | ld_c_l
  | ld_c_mhl | ld_c_a | ld_d_b | ld_d_c | ld_d_d | ld_d_e | ld_d_h | ld_d_l | ld_d_mhl | ld_d_a | ld_e_b
  | ld_e_c | ld_e_d | ld_e_e | ld_e_h | ld_e_l | ld_e_mhl | ld_e_a | ld_h_b | ld_h_c | ld_h_d | ld_h_e
  | ld_h_h | ld_h_l | ld_h_mhl | ld_h_a | ld_l_b | ld_l_c | ld_l_d | ld_l_e | ld_l_h | ld_l_l | ld_l_mhl
  | ld_l_a | ld_mhl_b | ld_mhl_c | ld_mhl_d | ld_mhl_e | ld_mhl_h | ld_mhl_l | ld_mhl_a | ld_a_b | ld_a_c
  | ld_a_d | ld_a_e | ld_a_h | ld_a_l | ld_a_mhl | ld_a_a | add_a_b | add_a_c | add_a_d | add_a_e | add_a_h
  | add_a_l | add_a_mhl | add_a_a | adc_a_b | adc_a_c | adc_a_d | adc_a_e | adc_a_h | adc_a_l | adc_a_mhl
  | adc_a_a | sub_a_b | sub_a_c | sub_a_d | sub_a_e | sub_a_h | sub_a_l | sub_a_mhl | sub_a_a | sbc_a_b
  | sbc_a_c | sbc_a_d | sbc_a_e | sbc_a_h | sbc_a_l | sbc_a_mhl | sbc_a_a | and_a_b | and_a_c | and_a_d
  | and_a_e | and_a_h | and_a_l | and_a_mhl | and_a_a | xor_a_b | xor_a_c | xor_a_d | xor_a_e | xor_a_h
  | xor_a_l | xor_a_mhl | xor_a_a | or_a_b | or_a_c | or_a_d | or_a_e | or_a_h | or_a_l | or_a_mhl | or_a_a
  | cp_a_b | cp_a_c | cp_a_d | cp_a_e | cp_a_h | cp_a_l | cp_a_mhl | cp_a_a | jp_a16 | add_a_d8 | ret
  | prefixCB | call_a16 | adc_a_d8 | cls | sub_a_d8 | sbc_a_d8 | and_a_d8 | xor_a_d8 | or_a_d8 | cp_a_d8
  | rlc_b | rlc_c | rlc_d | rlc_e | rlc_h | rlc_l | rlc_mhl | rlc_a | rrc_b | rrc_c | rrc_d | rrc_e | rrc_h
  | rrc_l | rrc_mhl | rrc_a | rl_b | rl_c | rl_d | rl_e | rl_h | rl_l | rl_mhl | rl_a | rr_b | rr_c | rr_d
  | rr_e | rr_h | rr_l | rr_mhl | rr_a | sla_b | sla_c | sla_d | sla_e | sla_h | sla_l | sla_mhl | sla_a
  | sra_b | sra_c | sra_d | sra_e | sra_h | sra_l | sra_mhl | sra_a | swap_b | swap_c | swap_d | swap_e
  | swap_h | swap_l | swap_mhl | swap_a | srl_b | srl_c | srl_d | srl_e | srl_h | srl_l | srl_mhl | srl_a
  deriving DecidableEq, Repr

/-- The instruction descriptors of the reference ROM (spec/30_encoding.md R131). -/
inductive Descriptor where
  | nop
  | ld16 (rr : Pair)
  | ldSP16
  | ld8I (r : GReg)
  | ldRR (r r' : GReg)
  | ldHL (r : GReg)
  | stHL (r : GReg)
  | inc8 (r : GReg)
  | dec8 (r : GReg)
  | inc16 (rr : Rp)
  | dec16 (rr : Rp)
  | aluR (op : AluOp) (r : GReg)
  | aluHL (op : AluOp)
  | aluI (op : AluOp)
  | rotA (op : RotAOp)
  | jr
  | jrCC (cc : Cc)
  | jp
  | call
  | ret
  | prefixCB
  | cls
  | cbR (op : CbOp) (r : GReg)
  | cbHL (op : CbOp)
  deriving DecidableEq, Repr

/-- An end of a `Transfer` (spec/40_pipeline.md R151): an 8-bit cell, a 16-bit name, or the memory byte at the
address a 16-bit name holds. -/
inductive Endpoint where
  | reg8 (n : Reg8)
  | reg16 (n : Reg16)
  | mem (p : Reg16)
  deriving DecidableEq, Repr

/-- The closed enumeration of effects (spec/40_pipeline.md R154). -/
inductive Effect where
  | incPC
  | fde
  | inc8 (r : GReg)
  | dec8 (r : GReg)
  | inc16 (rr : Rp)
  | dec16 (rr : Rp)
  | alu (op : AluOp) (s : Reg8)
  | rotA (op : RotAOp)
  | cb (op : CbOp) (t : Reg8)
  | jumpRel
  | pushPC
  | popPC
  | clearFB
  deriving DecidableEq, Repr

/-- A micro-operation (spec/40_pipeline.md R150): a transfer or an effect. It carries no timing. -/
inductive MicroOp where
  | transfer (src dst : Endpoint)
  | effect (e : Effect)
  deriving DecidableEq, Repr

/-- A handler plan (spec/40_pipeline.md R169): offset and micro-operation pairs in the order the handler
schedules them, and the duration to the next boundary. -/
structure Plan where
  ops : List (Nat × MicroOp)
  dur : Nat
  deriving DecidableEq, Repr

/-- An instruction with its operand bytes in address order, as an assembler writes it
(spec/30_encoding.md R114, R129). -/
structure Line where
  instr : Instr
  operands : List Byte
  deriving DecidableEq, Repr

end Sys2Proof
end

