-- ==== Sys2Proof/Machine/Flags.lean ====
section
/-! DEFINITION. The flag layout (spec/10_state.md R38, R39) and every result and flag computation: increments and
decrements (spec/42_arith.md R220 to R223), the eight-bit ALU (R224), the accumulator rotates
(spec/43_rotate_shift.md R260 to R263) and the extended operations (R264). Values are integers, narrowed at the end
(spec/00_scope.md R11). -/

namespace Sys2Proof.Machine

/-! ### The flag byte -/

/-- Any value written to `F` is stored with bits 3 to 0 cleared (R39). -/
def maskF (v : Byte) : Byte := v &&& 0xF0

/-- The byte of `F` with the given flags, `Z N H C 0 0 0 0` (R38). -/
def packFlags (z n h c : Bool) : Byte :=
  BitVec.ofNat 8 (0x80 * bit z + 0x40 * bit n + 0x20 * bit h + 0x10 * bit c)

/-- `F.Z = F[7]`. -/
def flagZ (f : Byte) : Bool := f.getLsbD 7

/-- `F.N = F[6]`. -/
def flagN (f : Byte) : Bool := f.getLsbD 6

/-- `F.H = F[5]`. -/
def flagH (f : Byte) : Bool := f.getLsbD 5

/-- `F.C = F[4]`. -/
def flagC (f : Byte) : Bool := f.getLsbD 4

/-- Whether a condition code holds of the flags (spec/30_encoding.md R118). -/
def condition (cc : Cc) (f : Byte) : Bool :=
  match cc with
  | .nz => !flagZ f
  | .z => flagZ f
  | .nc => !flagC f
  | .c => flagC f

/-! ### Results -/

/-- A byte and the flag byte that goes with it. -/
structure ByteResult where
  val : Byte
  flags : Byte
  deriving DecidableEq, Repr

/-- `Inc8` (R220): `C` keeps its value. -/
def inc8Result (v f : Byte) : ByteResult :=
  let r : Byte := BitVec.ofNat 8 (v.toNat + 1)
  { val := r, flags := packFlags (decide (r = 0)) false (decide (v.toNat % 16 = 15)) (flagC f) }

/-- `Dec8` (R221): `C` keeps its value. -/
def dec8Result (v f : Byte) : ByteResult :=
  let r : Byte := BitVec.ofInt 8 ((v.toNat : Int) - 1)
  { val := r, flags := packFlags (decide (r = 0)) true (decide (v.toNat % 16 = 0)) (flagC f) }

/-- `trunc_16(v + 1)` (R222). -/
def inc16Result (v : Word) : Word := BitVec.ofNat 16 (v.toNat + 1)

/-- `trunc_16(v - 1)` (R223). -/
def dec16Result (v : Word) : Word := BitVec.ofInt 16 ((v.toNat : Int) - 1)

/-- The sum of the `ADD` and `ADC` rows of R224, with carry in `ci`. -/
def addResult (x v : Byte) (ci : Nat) : ByteResult :=
  let t := x.toNat + v.toNat + ci
  let r : Byte := BitVec.ofNat 8 t
  { val := r
    flags := packFlags (decide (r = 0)) false (decide (x.toNat % 16 + v.toNat % 16 + ci > 15)) (decide (t > 255)) }

/-- The difference of the `SUB`, `SBC` and `CP` rows of R224, with borrow in `ci`. -/
def subResult (x v : Byte) (ci : Nat) : ByteResult :=
  let r : Byte := BitVec.ofInt 8 ((x.toNat : Int) - v.toNat - ci)
  { val := r
    flags := packFlags (decide (r = 0)) true (decide (x.toNat % 16 < v.toNat % 16 + ci))
      (decide (x.toNat < v.toNat + ci)) }

/-- A bitwise row of R224: `H` as given, `N` and `C` clear. -/
def logicResult (t : Byte) (h : Bool) : ByteResult :=
  { val := t, flags := packFlags (decide (t = 0)) false h false }

/-- `Alu(op, s)` (R224): the new `A` and the new `F`, from `x = R[A]`, the operand `v` and the old `F`. -/
def aluResult (op : AluOp) (x v f : Byte) : ByteResult :=
  match op with
  | .add => addResult x v 0
  | .adc => addResult x v (bit (flagC f))
  | .sub => subResult x v 0
  | .sbc => subResult x v (bit (flagC f))
  | .and => logicResult (x &&& v) true
  | .xor => logicResult (x ^^^ v) false
  | .or => logicResult (x ||| v) false
  | .cp => { val := x, flags := (subResult x v 0).flags }

/-- A byte shifted left by one with `lo` entering bit 0: `trunc_8(2v) + lo`. -/
def shiftLeftIn (v : Byte) (lo : Bool) : Byte := BitVec.ofNat 8 (2 * v.toNat % 256 + bit lo)

/-- A byte shifted right by one with `hi` entering bit 7: `(v div 2) + 128 * hi`. -/
def shiftRightIn (v : Byte) (hi : Bool) : Byte := BitVec.ofNat 8 (v.toNat / 2 + 128 * bit hi)

/-- `v[7]`. -/
def bit7 (v : Byte) : Bool := v.getLsbD 7

/-- `v[0]`. -/
def bit0 (v : Byte) : Bool := v.getLsbD 0

/-- The accumulator rotates (R260 to R263): `Z`, `N` and `H` are cleared, `C` is the bit moved out. -/
def rotAResult (op : RotAOp) (v f : Byte) : ByteResult :=
  match op with
  | .rlca => { val := shiftLeftIn v (bit7 v), flags := packFlags false false false (bit7 v) }
  | .rrca => { val := shiftRightIn v (bit0 v), flags := packFlags false false false (bit0 v) }
  | .rla => { val := shiftLeftIn v (flagC f), flags := packFlags false false false (bit7 v) }
  | .rra => { val := shiftRightIn v (flagC f), flags := packFlags false false false (bit0 v) }

/-- The result byte of `Cb(op, t)` (R264), from the operand `v` and the old carry `k`. -/
def cbValue (op : CbOp) (v : Byte) (k : Bool) : Byte :=
  match op with
  | .rlc => shiftLeftIn v (bit7 v)
  | .rrc => shiftRightIn v (bit0 v)
  | .rl => shiftLeftIn v k
  | .rr => shiftRightIn v k
  | .sla => shiftLeftIn v false
  | .sra => shiftRightIn v (bit7 v)
  | .swap => BitVec.ofNat 8 (16 * (v.toNat % 16) + v.toNat / 16)
  | .srl => shiftRightIn v false

/-- The carry of `Cb(op, t)` (R264). -/
def cbCarry (op : CbOp) (v : Byte) : Bool :=
  match op with
  | .rlc | .rl | .sla => bit7 v
  | .rrc | .rr | .sra | .srl => bit0 v
  | .swap => false

/-- `Cb(op, t)` (R264): `Z` from the result, `N` and `H` clear, `C` the bit moved out. -/
def cbResult (op : CbOp) (v f : Byte) : ByteResult :=
  let r := cbValue op v (flagC f)
  { val := r, flags := packFlags (decide (r = 0)) false false (cbCarry op v) }

end Sys2Proof.Machine
end

