-- ==== Sys2Proof/Config.lean ====
section
/-! DEFINITION. What an implementation of CORE fixes: the parameters of spec/00_scope.md R7 with their defaults, the
fixed geometries, and the one value the spec leaves open. -/

namespace Sys2Proof

/-- A decode ROM (spec/30_encoding.md R110, R111): from the prefix flag and a byte to an instruction, or to
`UnknownOpcode` (`none`). A function is total on both tables, which is R113 (a). -/
abbrev Rom := Bool → Byte → Option Instr

/-- The implementation parameters of spec/00_scope.md R7, each with its default. `RESET_PC` and `PREFIX_BYTE` are
a word and a byte by type; the other ranges are checked in WellFormed.lean. -/
structure Params where
  /-- `MEM_SIZE`: the number of addressable bytes. -/
  memSize : Nat := 0x10000
  /-- `PROG_END`: the first address of the read/write working region. -/
  progEnd : Nat := 0x8000
  /-- `CALL_STACK_CAPACITY`: the maximum depth of the call stack. -/
  callStackCapacity : Nat := 16
  /-- `RESET_PC`: the program counter after reset and at power-on. -/
  resetPc : Word := 0x0100
  /-- `PREFIX_BYTE`: the prefix opcode. -/
  prefixByte : Byte := 0xCB
  /-- `DECODE_ROM`. -/
  rom : Rom

/-- `FB_ROWS`: rows of the framebuffer (R7, fixed). -/
abbrev fbRows : Nat := 32

/-- `FB_COLS`: one-bit pixels of a framebuffer row (R7, fixed). -/
abbrev fbCols : Nat := 64

/-- `KEY_COUNT`: bits of the input register (R7, fixed). -/
abbrev keyCount : Nat := 16

/-- `TIMER_WIDTH`: bits of each fixed-rate timer register (R7, fixed). -/
abbrev timerWidth : Nat := 8

/-- `TICKS_PER_MCYCLE`: ticks of a machine cycle in the timing templates (R7, fixed). -/
abbrev ticksPerMCycle : Nat := 4

/-- A free value. spec/20_memory.md R98 makes `load_rom` report the first address of the sequence outside the program
region; for an EMPTY sequence whose base lies outside that region there is no such address, and the spec states none.
Applied to the base; nothing constrains it (assumption log 9, DESIGN CHOICE, safe). -/
opaque Config.emptyLoadAddress : Int → Int

end Sys2Proof
end

