-- ==== Sys2Proof/Decode.lean ====
section
/-! DEFINITION. The reference decode ROM (spec/30_encoding.md R124, R125), the descriptor of each row (R131), the
decoder over bytes, total and rejecting by name, and after it the encoder, written from the bit patterns of the
family rules and the code tables R116 to R120, not from the ROM's rows. -/

namespace Sys2Proof

/-! ### The descriptor of each table row -/

/-- The descriptor the decode ROM holds for each row of the opcode table (R131). -/
def Instr.descriptor : Instr → Descriptor
  | .nop => .nop
  | .ld_bc_d16 => .ld16 .bc
  | .inc_bc => .inc16 .bc
  | .inc_b => .inc8 .b
  | .dec_b => .dec8 .b
  | .ld_b_d8 => .ld8I .b
  | .rlca => .rotA .rlca
  | .dec_bc => .dec16 .bc
  | .inc_c => .inc8 .c
  | .dec_c => .dec8 .c
  | .ld_c_d8 => .ld8I .c
  | .rrca => .rotA .rrca
  | .ld_de_d16 => .ld16 .de
  | .inc_de => .inc16 .de
  | .inc_d => .inc8 .d
  | .dec_d => .dec8 .d
  | .ld_d_d8 => .ld8I .d
  | .rla => .rotA .rla
  | .jr_e8 => .jr
  | .dec_de => .dec16 .de
  | .inc_e => .inc8 .e
  | .dec_e => .dec8 .e
  | .ld_e_d8 => .ld8I .e
  | .rra => .rotA .rra
  | .jr_nz_e8 => .jrCC .nz
  | .ld_hl_d16 => .ld16 .hl
  | .inc_hl => .inc16 .hl
  | .inc_h => .inc8 .h
  | .dec_h => .dec8 .h
  | .ld_h_d8 => .ld8I .h
  | .jr_z_e8 => .jrCC .z
  | .dec_hl => .dec16 .hl
  | .inc_l => .inc8 .l
  | .dec_l => .dec8 .l
  | .ld_l_d8 => .ld8I .l
  | .jr_nc_e8 => .jrCC .nc
  | .ld_sp_d16 => .ldSP16
  | .inc_sp => .inc16 .sp
  | .jr_c_e8 => .jrCC .c
  | .dec_sp => .dec16 .sp
  | .inc_a => .inc8 .a
  | .dec_a => .dec8 .a
  | .ld_a_d8 => .ld8I .a
  | .ld_b_b => .ldRR .b .b
  | .ld_b_c => .ldRR .b .c
  | .ld_b_d => .ldRR .b .d
  | .ld_b_e => .ldRR .b .e
  | .ld_b_h => .ldRR .b .h
  | .ld_b_l => .ldRR .b .l
  | .ld_b_mhl => .ldHL .b
  | .ld_b_a => .ldRR .b .a
  | .ld_c_b => .ldRR .c .b
  | .ld_c_c => .ldRR .c .c
  | .ld_c_d => .ldRR .c .d
  | .ld_c_e => .ldRR .c .e
  | .ld_c_h => .ldRR .c .h
  | .ld_c_l => .ldRR .c .l
  | .ld_c_mhl => .ldHL .c
  | .ld_c_a => .ldRR .c .a
  | .ld_d_b => .ldRR .d .b
  | .ld_d_c => .ldRR .d .c
  | .ld_d_d => .ldRR .d .d
  | .ld_d_e => .ldRR .d .e
  | .ld_d_h => .ldRR .d .h
  | .ld_d_l => .ldRR .d .l
  | .ld_d_mhl => .ldHL .d
  | .ld_d_a => .ldRR .d .a
  | .ld_e_b => .ldRR .e .b
  | .ld_e_c => .ldRR .e .c
  | .ld_e_d => .ldRR .e .d
  | .ld_e_e => .ldRR .e .e
  | .ld_e_h => .ldRR .e .h
  | .ld_e_l => .ldRR .e .l
  | .ld_e_mhl => .ldHL .e
  | .ld_e_a => .ldRR .e .a
  | .ld_h_b => .ldRR .h .b
  | .ld_h_c => .ldRR .h .c
  | .ld_h_d => .ldRR .h .d
  | .ld_h_e => .ldRR .h .e
  | .ld_h_h => .ldRR .h .h
  | .ld_h_l => .ldRR .h .l
  | .ld_h_mhl => .ldHL .h
  | .ld_h_a => .ldRR .h .a
  | .ld_l_b => .ldRR .l .b
  | .ld_l_c => .ldRR .l .c
  | .ld_l_d => .ldRR .l .d
  | .ld_l_e => .ldRR .l .e
  | .ld_l_h => .ldRR .l .h
  | .ld_l_l => .ldRR .l .l
  | .ld_l_mhl => .ldHL .l
  | .ld_l_a => .ldRR .l .a
  | .ld_mhl_b => .stHL .b
  | .ld_mhl_c => .stHL .c
  | .ld_mhl_d => .stHL .d
  | .ld_mhl_e => .stHL .e
  | .ld_mhl_h => .stHL .h
  | .ld_mhl_l => .stHL .l
  | .ld_mhl_a => .stHL .a
  | .ld_a_b => .ldRR .a .b
  | .ld_a_c => .ldRR .a .c
  | .ld_a_d => .ldRR .a .d
  | .ld_a_e => .ldRR .a .e
  | .ld_a_h => .ldRR .a .h
  | .ld_a_l => .ldRR .a .l
  | .ld_a_mhl => .ldHL .a
  | .ld_a_a => .ldRR .a .a
  | .add_a_b => .aluR .add .b
  | .add_a_c => .aluR .add .c
  | .add_a_d => .aluR .add .d
  | .add_a_e => .aluR .add .e
  | .add_a_h => .aluR .add .h
  | .add_a_l => .aluR .add .l
  | .add_a_mhl => .aluHL .add
  | .add_a_a => .aluR .add .a
  | .adc_a_b => .aluR .adc .b
  | .adc_a_c => .aluR .adc .c
  | .adc_a_d => .aluR .adc .d
  | .adc_a_e => .aluR .adc .e
  | .adc_a_h => .aluR .adc .h
  | .adc_a_l => .aluR .adc .l
  | .adc_a_mhl => .aluHL .adc
  | .adc_a_a => .aluR .adc .a
  | .sub_a_b => .aluR .sub .b
  | .sub_a_c => .aluR .sub .c
  | .sub_a_d => .aluR .sub .d
  | .sub_a_e => .aluR .sub .e
  | .sub_a_h => .aluR .sub .h
  | .sub_a_l => .aluR .sub .l
  | .sub_a_mhl => .aluHL .sub
  | .sub_a_a => .aluR .sub .a
  | .sbc_a_b => .aluR .sbc .b
  | .sbc_a_c => .aluR .sbc .c
  | .sbc_a_d => .aluR .sbc .d
  | .sbc_a_e => .aluR .sbc .e
  | .sbc_a_h => .aluR .sbc .h
  | .sbc_a_l => .aluR .sbc .l
  | .sbc_a_mhl => .aluHL .sbc
  | .sbc_a_a => .aluR .sbc .a
  | .and_a_b => .aluR .and .b
  | .and_a_c => .aluR .and .c
  | .and_a_d => .aluR .and .d
  | .and_a_e => .aluR .and .e
  | .and_a_h => .aluR .and .h
  | .and_a_l => .aluR .and .l
  | .and_a_mhl => .aluHL .and
  | .and_a_a => .aluR .and .a
  | .xor_a_b => .aluR .xor .b
  | .xor_a_c => .aluR .xor .c
  | .xor_a_d => .aluR .xor .d
  | .xor_a_e => .aluR .xor .e
  | .xor_a_h => .aluR .xor .h
  | .xor_a_l => .aluR .xor .l
  | .xor_a_mhl => .aluHL .xor
  | .xor_a_a => .aluR .xor .a
  | .or_a_b => .aluR .or .b
  | .or_a_c => .aluR .or .c
  | .or_a_d => .aluR .or .d
  | .or_a_e => .aluR .or .e
  | .or_a_h => .aluR .or .h
  | .or_a_l => .aluR .or .l
  | .or_a_mhl => .aluHL .or
  | .or_a_a => .aluR .or .a
  | .cp_a_b => .aluR .cp .b
  | .cp_a_c => .aluR .cp .c
  | .cp_a_d => .aluR .cp .d
  | .cp_a_e => .aluR .cp .e
  | .cp_a_h => .aluR .cp .h
  | .cp_a_l => .aluR .cp .l
  | .cp_a_mhl => .aluHL .cp
  | .cp_a_a => .aluR .cp .a
  | .jp_a16 => .jp
  | .add_a_d8 => .aluI .add
  | .ret => .ret
  | .prefixCB => .prefixCB
  | .call_a16 => .call
  | .adc_a_d8 => .aluI .adc
  | .cls => .cls
  | .sub_a_d8 => .aluI .sub
  | .sbc_a_d8 => .aluI .sbc
  | .and_a_d8 => .aluI .and
  | .xor_a_d8 => .aluI .xor
  | .or_a_d8 => .aluI .or
  | .cp_a_d8 => .aluI .cp
  | .rlc_b => .cbR .rlc .b
  | .rlc_c => .cbR .rlc .c
  | .rlc_d => .cbR .rlc .d
  | .rlc_e => .cbR .rlc .e
  | .rlc_h => .cbR .rlc .h
  | .rlc_l => .cbR .rlc .l
  | .rlc_mhl => .cbHL .rlc
  | .rlc_a => .cbR .rlc .a
  | .rrc_b => .cbR .rrc .b
  | .rrc_c => .cbR .rrc .c
  | .rrc_d => .cbR .rrc .d
  | .rrc_e => .cbR .rrc .e
  | .rrc_h => .cbR .rrc .h
  | .rrc_l => .cbR .rrc .l
  | .rrc_mhl => .cbHL .rrc
  | .rrc_a => .cbR .rrc .a
  | .rl_b => .cbR .rl .b
  | .rl_c => .cbR .rl .c
  | .rl_d => .cbR .rl .d
  | .rl_e => .cbR .rl .e
  | .rl_h => .cbR .rl .h
  | .rl_l => .cbR .rl .l
  | .rl_mhl => .cbHL .rl
  | .rl_a => .cbR .rl .a
  | .rr_b => .cbR .rr .b
  | .rr_c => .cbR .rr .c
  | .rr_d => .cbR .rr .d
  | .rr_e => .cbR .rr .e
  | .rr_h => .cbR .rr .h
  | .rr_l => .cbR .rr .l
  | .rr_mhl => .cbHL .rr
  | .rr_a => .cbR .rr .a
  | .sla_b => .cbR .sla .b
  | .sla_c => .cbR .sla .c
  | .sla_d => .cbR .sla .d
  | .sla_e => .cbR .sla .e
  | .sla_h => .cbR .sla .h
  | .sla_l => .cbR .sla .l
  | .sla_mhl => .cbHL .sla
  | .sla_a => .cbR .sla .a
  | .sra_b => .cbR .sra .b
  | .sra_c => .cbR .sra .c
  | .sra_d => .cbR .sra .d
  | .sra_e => .cbR .sra .e
  | .sra_h => .cbR .sra .h
  | .sra_l => .cbR .sra .l
  | .sra_mhl => .cbHL .sra
  | .sra_a => .cbR .sra .a
  | .swap_b => .cbR .swap .b
  | .swap_c => .cbR .swap .c
  | .swap_d => .cbR .swap .d
  | .swap_e => .cbR .swap .e
  | .swap_h => .cbR .swap .h
  | .swap_l => .cbR .swap .l
  | .swap_mhl => .cbHL .swap
  | .swap_a => .cbR .swap .a
  | .srl_b => .cbR .srl .b
  | .srl_c => .cbR .srl .c
  | .srl_d => .cbR .srl .d
  | .srl_e => .cbR .srl .e
  | .srl_h => .cbR .srl .h
  | .srl_l => .cbR .srl .l
  | .srl_mhl => .cbHL .srl
  | .srl_a => .cbR .srl .a

/-! ### The reference decode ROM -/

/-- Row `0x` of the primary table (R124). -/
def primaryRow0 : List (Nat × Instr) :=
  [(0x00, .nop), (0x01, .ld_bc_d16), (0x03, .inc_bc), (0x04, .inc_b), (0x05, .dec_b), (0x06, .ld_b_d8),
   (0x07, .rlca), (0x0B, .dec_bc), (0x0C, .inc_c), (0x0D, .dec_c), (0x0E, .ld_c_d8), (0x0F, .rrca)]

/-- Row `1x` of the primary table (R124). -/
def primaryRow1 : List (Nat × Instr) :=
  [(0x11, .ld_de_d16), (0x13, .inc_de), (0x14, .inc_d), (0x15, .dec_d), (0x16, .ld_d_d8), (0x17, .rla),
   (0x18, .jr_e8), (0x1B, .dec_de), (0x1C, .inc_e), (0x1D, .dec_e), (0x1E, .ld_e_d8), (0x1F, .rra)]

/-- Row `2x` of the primary table (R124). -/
def primaryRow2 : List (Nat × Instr) :=
  [(0x20, .jr_nz_e8), (0x21, .ld_hl_d16), (0x23, .inc_hl), (0x24, .inc_h), (0x25, .dec_h),
   (0x26, .ld_h_d8), (0x28, .jr_z_e8), (0x2B, .dec_hl), (0x2C, .inc_l), (0x2D, .dec_l), (0x2E, .ld_l_d8)]

/-- Row `3x` of the primary table (R124). -/
def primaryRow3 : List (Nat × Instr) :=
  [(0x30, .jr_nc_e8), (0x31, .ld_sp_d16), (0x33, .inc_sp), (0x38, .jr_c_e8), (0x3B, .dec_sp),
   (0x3C, .inc_a), (0x3D, .dec_a), (0x3E, .ld_a_d8)]

/-- Row `4x` of the primary table (R124). -/
def primaryRow4 : List (Nat × Instr) :=
  [(0x40, .ld_b_b), (0x41, .ld_b_c), (0x42, .ld_b_d), (0x43, .ld_b_e), (0x44, .ld_b_h), (0x45, .ld_b_l),
   (0x46, .ld_b_mhl), (0x47, .ld_b_a), (0x48, .ld_c_b), (0x49, .ld_c_c), (0x4A, .ld_c_d), (0x4B, .ld_c_e),
   (0x4C, .ld_c_h), (0x4D, .ld_c_l), (0x4E, .ld_c_mhl), (0x4F, .ld_c_a)]

/-- Row `5x` of the primary table (R124). -/
def primaryRow5 : List (Nat × Instr) :=
  [(0x50, .ld_d_b), (0x51, .ld_d_c), (0x52, .ld_d_d), (0x53, .ld_d_e), (0x54, .ld_d_h), (0x55, .ld_d_l),
   (0x56, .ld_d_mhl), (0x57, .ld_d_a), (0x58, .ld_e_b), (0x59, .ld_e_c), (0x5A, .ld_e_d), (0x5B, .ld_e_e),
   (0x5C, .ld_e_h), (0x5D, .ld_e_l), (0x5E, .ld_e_mhl), (0x5F, .ld_e_a)]

/-- Row `6x` of the primary table (R124). -/
def primaryRow6 : List (Nat × Instr) :=
  [(0x60, .ld_h_b), (0x61, .ld_h_c), (0x62, .ld_h_d), (0x63, .ld_h_e), (0x64, .ld_h_h), (0x65, .ld_h_l),
   (0x66, .ld_h_mhl), (0x67, .ld_h_a), (0x68, .ld_l_b), (0x69, .ld_l_c), (0x6A, .ld_l_d), (0x6B, .ld_l_e),
   (0x6C, .ld_l_h), (0x6D, .ld_l_l), (0x6E, .ld_l_mhl), (0x6F, .ld_l_a)]

/-- Row `7x` of the primary table (R124). -/
def primaryRow7 : List (Nat × Instr) :=
  [(0x70, .ld_mhl_b), (0x71, .ld_mhl_c), (0x72, .ld_mhl_d), (0x73, .ld_mhl_e), (0x74, .ld_mhl_h),
   (0x75, .ld_mhl_l), (0x77, .ld_mhl_a), (0x78, .ld_a_b), (0x79, .ld_a_c), (0x7A, .ld_a_d),
   (0x7B, .ld_a_e), (0x7C, .ld_a_h), (0x7D, .ld_a_l), (0x7E, .ld_a_mhl), (0x7F, .ld_a_a)]

/-- Row `8x` of the primary table (R124). -/
def primaryRow8 : List (Nat × Instr) :=
  [(0x80, .add_a_b), (0x81, .add_a_c), (0x82, .add_a_d), (0x83, .add_a_e), (0x84, .add_a_h),
   (0x85, .add_a_l), (0x86, .add_a_mhl), (0x87, .add_a_a), (0x88, .adc_a_b), (0x89, .adc_a_c),
   (0x8A, .adc_a_d), (0x8B, .adc_a_e), (0x8C, .adc_a_h), (0x8D, .adc_a_l), (0x8E, .adc_a_mhl),
   (0x8F, .adc_a_a)]

/-- Row `9x` of the primary table (R124). -/
def primaryRow9 : List (Nat × Instr) :=
  [(0x90, .sub_a_b), (0x91, .sub_a_c), (0x92, .sub_a_d), (0x93, .sub_a_e), (0x94, .sub_a_h),
   (0x95, .sub_a_l), (0x96, .sub_a_mhl), (0x97, .sub_a_a), (0x98, .sbc_a_b), (0x99, .sbc_a_c),
   (0x9A, .sbc_a_d), (0x9B, .sbc_a_e), (0x9C, .sbc_a_h), (0x9D, .sbc_a_l), (0x9E, .sbc_a_mhl),
   (0x9F, .sbc_a_a)]

/-- Row `Ax` of the primary table (R124). -/
def primaryRowA : List (Nat × Instr) :=
  [(0xA0, .and_a_b), (0xA1, .and_a_c), (0xA2, .and_a_d), (0xA3, .and_a_e), (0xA4, .and_a_h),
   (0xA5, .and_a_l), (0xA6, .and_a_mhl), (0xA7, .and_a_a), (0xA8, .xor_a_b), (0xA9, .xor_a_c),
   (0xAA, .xor_a_d), (0xAB, .xor_a_e), (0xAC, .xor_a_h), (0xAD, .xor_a_l), (0xAE, .xor_a_mhl),
   (0xAF, .xor_a_a)]

/-- Row `Bx` of the primary table (R124). -/
def primaryRowB : List (Nat × Instr) :=
  [(0xB0, .or_a_b), (0xB1, .or_a_c), (0xB2, .or_a_d), (0xB3, .or_a_e), (0xB4, .or_a_h), (0xB5, .or_a_l),
   (0xB6, .or_a_mhl), (0xB7, .or_a_a), (0xB8, .cp_a_b), (0xB9, .cp_a_c), (0xBA, .cp_a_d), (0xBB, .cp_a_e),
   (0xBC, .cp_a_h), (0xBD, .cp_a_l), (0xBE, .cp_a_mhl), (0xBF, .cp_a_a)]

/-- Row `Cx` of the primary table (R124). -/
def primaryRowC : List (Nat × Instr) :=
  [(0xC3, .jp_a16), (0xC6, .add_a_d8), (0xC9, .ret), (0xCB, .prefixCB), (0xCD, .call_a16),
   (0xCE, .adc_a_d8)]

/-- Row `Dx` of the primary table (R124). -/
def primaryRowD : List (Nat × Instr) :=
  [(0xD3, .cls), (0xD6, .sub_a_d8), (0xDE, .sbc_a_d8)]

/-- Row `Ex` of the primary table (R124). -/
def primaryRowE : List (Nat × Instr) :=
  [(0xE6, .and_a_d8), (0xEE, .xor_a_d8)]

/-- Row `Fx` of the primary table (R124). -/
def primaryRowF : List (Nat × Instr) :=
  [(0xF6, .or_a_d8), (0xFE, .cp_a_d8)]

/-- The primary table (R124): the index of each entry that is not `UnknownOpcode`, and its instruction. -/
def primaryRows : List (Nat × Instr) :=
  primaryRow0 ++ primaryRow1 ++ primaryRow2 ++ primaryRow3 ++ primaryRow4 ++ primaryRow5 ++ primaryRow6 ++
  primaryRow7 ++ primaryRow8 ++ primaryRow9 ++ primaryRowA ++ primaryRowB ++ primaryRowC ++ primaryRowD ++
  primaryRowE ++ primaryRowF

/-- Row `0x` of the extended table (R125). -/
def extendedRow0 : List (Nat × Instr) :=
  [(0x00, .rlc_b), (0x01, .rlc_c), (0x02, .rlc_d), (0x03, .rlc_e), (0x04, .rlc_h), (0x05, .rlc_l),
   (0x06, .rlc_mhl), (0x07, .rlc_a), (0x08, .rrc_b), (0x09, .rrc_c), (0x0A, .rrc_d), (0x0B, .rrc_e),
   (0x0C, .rrc_h), (0x0D, .rrc_l), (0x0E, .rrc_mhl), (0x0F, .rrc_a)]

/-- Row `1x` of the extended table (R125). -/
def extendedRow1 : List (Nat × Instr) :=
  [(0x10, .rl_b), (0x11, .rl_c), (0x12, .rl_d), (0x13, .rl_e), (0x14, .rl_h), (0x15, .rl_l),
   (0x16, .rl_mhl), (0x17, .rl_a), (0x18, .rr_b), (0x19, .rr_c), (0x1A, .rr_d), (0x1B, .rr_e),
   (0x1C, .rr_h), (0x1D, .rr_l), (0x1E, .rr_mhl), (0x1F, .rr_a)]

/-- Row `2x` of the extended table (R125). -/
def extendedRow2 : List (Nat × Instr) :=
  [(0x20, .sla_b), (0x21, .sla_c), (0x22, .sla_d), (0x23, .sla_e), (0x24, .sla_h), (0x25, .sla_l),
   (0x26, .sla_mhl), (0x27, .sla_a), (0x28, .sra_b), (0x29, .sra_c), (0x2A, .sra_d), (0x2B, .sra_e),
   (0x2C, .sra_h), (0x2D, .sra_l), (0x2E, .sra_mhl), (0x2F, .sra_a)]

/-- Row `3x` of the extended table (R125). -/
def extendedRow3 : List (Nat × Instr) :=
  [(0x30, .swap_b), (0x31, .swap_c), (0x32, .swap_d), (0x33, .swap_e), (0x34, .swap_h), (0x35, .swap_l),
   (0x36, .swap_mhl), (0x37, .swap_a), (0x38, .srl_b), (0x39, .srl_c), (0x3A, .srl_d), (0x3B, .srl_e),
   (0x3C, .srl_h), (0x3D, .srl_l), (0x3E, .srl_mhl), (0x3F, .srl_a)]

/-- The extended table (R125); every index it does not list is `UnknownOpcode` (R126). -/
def extendedRows : List (Nat × Instr) :=
  extendedRow0 ++ extendedRow1 ++ extendedRow2 ++ extendedRow3

/-- The entry of a table at index `b`; `none` is the explicit outcome `UnknownOpcode` (R110). -/
def lookupRow : List (Nat × Instr) → Byte → Option Instr
  | [], _ => none
  | (k, i) :: rows, b => if k == b.toNat then some i else lookupRow rows b

/-- The reference decode ROM: `decode(b, ext)` reads the extended table exactly when `ext` is set (R111). -/
def referenceRom : Rom := fun ext b => lookupRow (if ext then extendedRows else primaryRows) b

/-- The parameters of this instance (spec/00_scope.md R7): every one at its default. -/
def Params.reference : Params := { rom := referenceRom }

/-! ### The decoder over bytes -/

/-- How many operand bytes follow the opcode byte: the format column (R114). -/
def Descriptor.operandBytes : Descriptor → Nat
  | .ld16 _ | .ldSP16 | .jp | .call => 2
  | .ld8I _ | .aluI _ | .jr | .jrCC _ => 1
  | .nop | .ldRR _ _ | .ldHL _ | .stHL _ | .inc8 _ | .dec8 _ | .inc16 _ | .dec16 _ | .aluR _ _ | .aluHL _
  | .rotA _ | .ret | .prefixCB | .cls | .cbR _ _ | .cbHL _ => 0

/-- Whether the descriptor stands in the extended table (format FX, R114). -/
def Descriptor.extended : Descriptor → Bool
  | .cbR _ _ | .cbHL _ => true
  | .nop | .ld16 _ | .ldSP16 | .ld8I _ | .ldRR _ _ | .ldHL _ | .stHL _ | .inc8 _ | .dec8 _ | .inc16 _ | .dec16 _
  | .aluR _ _ | .aluHL _ | .aluI _ | .rotA _ | .jr | .jrCC _ | .jp | .call | .ret | .prefixCB | .cls => false

/-- Why bytes are no instruction. `unknownOpcode`: the table selected has no entry at `b` (R126).
`truncated`: the bytes end before the instruction does. -/
inductive DecodeError where
  | unknownOpcode (ext : Bool) (b : Byte)
  | truncated
  deriving DecidableEq, Repr

/-- One decode (R111) and the operand bytes its format takes (R114), with the bytes left over. -/
def decodeOne (rom : Rom) (ext : Bool) : List Byte → Except DecodeError (Line × List Byte)
  | [] => .error .truncated
  | b :: rest =>
    match rom ext b with
    | none => .error (.unknownOpcode ext b)
    | some i =>
      if rest.length < i.descriptor.operandBytes then .error .truncated
      else .ok (⟨i, rest.take i.descriptor.operandBytes⟩, rest.drop i.descriptor.operandBytes)

/-- The instruction at the head of the bytes, the prefixed format FX read as a whole: the prefix sends exactly the
next byte to the extended table (R112, R114, R128). -/
def decodeLine (rom : Rom) (bytes : List Byte) : Except DecodeError (Line × List Byte) :=
  match decodeOne rom false bytes with
  | .error e => .error e
  | .ok (l, rest) => if l.instr = .prefixCB then decodeOne rom true rest else .ok (l, rest)

/-- The bytes, in address order, of a table word of `nbits` bits. A word whose second byte alone is the prefix is an
FX row: the table writes those most significant byte first, as `0xCB` then `xop` (assumption log 2). -/
def tableBytes (nbits w : Nat) : List Byte :=
  let b0 := BitVec.ofNat 8 w
  let b1 := BitVec.ofNat 8 (w / 0x100)
  let b2 := BitVec.ofNat 8 (w / 0x10000)
  if nbits ≤ 8 then [b0, 0, 0]
  else if nbits ≤ 16 then
    if b1 = 0xCB ∧ b0 ≠ 0xCB then [b1, b0] else [b0, b1, 0]
  else [b0, b1, b2]

/-- The instruction the decoder reads from a table word. An 8-bit word is one opcode byte of the primary table, so
`0xCB` alone is the row `PREFIX`; a longer word is decoded as the bytes it stores. -/
def decodeTableWord (nbits w : Nat) : Option Instr :=
  if nbits ≤ 8 then referenceRom false (BitVec.ofNat 8 w)
  else
    match decodeLine referenceRom (tableBytes nbits w) with
    | .ok (l, _) => some l.instr
    | .error _ => none

/-! ### The encoder -/

/-- The 3-bit register code `r` (R116). -/
def GReg.code : GReg → BitVec 3
  | .b => 0 | .c => 1 | .d => 2 | .e => 3 | .h => 4 | .l => 5 | .a => 7

/-- The 2-bit pair code `rp` (R117). -/
def Rp.code : Rp → BitVec 2
  | .bc => 0 | .de => 1 | .hl => 2 | .sp => 3

/-- The pair code of the three pairs `LD rr,d16` loads (R117). -/
def Pair.code : Pair → BitVec 2
  | .bc => 0 | .de => 1 | .hl => 2

/-- The 2-bit condition code `cc` (R118). -/
def Cc.code : Cc → BitVec 2
  | .nz => 0 | .z => 1 | .nc => 2 | .c => 3

/-- The 3-bit ALU code (R119). -/
def AluOp.code : AluOp → BitVec 3
  | .add => 0 | .adc => 1 | .sub => 2 | .sbc => 3 | .and => 4 | .xor => 5 | .or => 6 | .cp => 7

/-- The accumulator rotates' `y` field: opcodes 0x07, 0x0F, 0x17, 0x1F (spec/43_rotate_shift.md R260 to R263). -/
def RotAOp.code : RotAOp → BitVec 3
  | .rlca => 0 | .rrca => 1 | .rla => 2 | .rra => 3

/-- The 3-bit extended-operation code (R120). -/
def CbOp.code : CbOp → BitVec 3
  | .rlc => 0 | .rrc => 1 | .rl => 2 | .rr => 3 | .sla => 4 | .sra => 5 | .swap => 6 | .srl => 7

/-- The opcode byte of a descriptor, from the bit pattern its family rule gives (R200 to R311); for an extended
descriptor, the byte after the prefix. -/
def Descriptor.opcode : Descriptor → Byte
  | .nop => 0x00
  | .ld16 rr => 0b00#2 ++ rr.code ++ 0b0001#4
  | .ldSP16 => 0x31
  | .ld8I r => 0b00#2 ++ r.code ++ 0b110#3
  | .ldRR r r' => 0b01#2 ++ r.code ++ r'.code
  | .ldHL r => 0b01#2 ++ r.code ++ 0b110#3
  | .stHL r => 0b01110#5 ++ r.code
  | .inc8 r => 0b00#2 ++ r.code ++ 0b100#3
  | .dec8 r => 0b00#2 ++ r.code ++ 0b101#3
  | .inc16 rr => 0b00#2 ++ rr.code ++ 0b0011#4
  | .dec16 rr => 0b00#2 ++ rr.code ++ 0b1011#4
  | .aluR op r => 0b10#2 ++ op.code ++ r.code
  | .aluHL op => 0b10#2 ++ op.code ++ 0b110#3
  | .aluI op => 0b11#2 ++ op.code ++ 0b110#3
  | .rotA op => 0b00#2 ++ op.code ++ 0b111#3
  | .jr => 0x18
  | .jrCC cc => 0b001#3 ++ cc.code ++ 0b000#3
  | .jp => 0xC3
  | .call => 0xCD
  | .ret => 0xC9
  | .prefixCB => 0xCB
  | .cls => 0xD3
  | .cbR op r => 0b00#2 ++ op.code ++ r.code
  | .cbHL op => 0b00#2 ++ op.code ++ 0b110#3

/-- The bytes of an instruction's opcode: the prefix first for an extended one (R114, R130). -/
def Descriptor.opcodeBytes (d : Descriptor) : List Byte :=
  if d.extended then [0xCB, d.opcode] else [d.opcode]

/-- The bytes of an instruction in address order: its opcode bytes, then its operand bytes, of which a 16-bit
operand's high byte comes first (R114, R123). -/
def encode (l : Line) : List Byte := l.instr.descriptor.opcodeBytes ++ l.operands

/-- The operand bytes of a 16-bit immediate: high byte first (spec/20_memory.md R86, R123). -/
def immediate16 (v : Word) : List Byte := [v.extractLsb' 8 8, v.extractLsb' 0 8]

/-- The operand byte an assembler writes for `JR label`, the instruction at `addr`: `label - (addr + 2)` when that
is a signed byte (R129). -/
def jumpOffset (addr label : Nat) : Option Byte :=
  let e : Int := (label : Int) - (addr + 2)
  if -128 ≤ e ∧ e ≤ 127 then some (BitVec.ofInt 8 e) else none

/-! ### Assembler syntax -/

/-- The mnemonic of each instruction as R124 and R125 print it (R129). -/
def Instr.mnemonic : Instr → String
  | .nop => "NOP"
  | .ld_bc_d16 => "LD BC,d16"
  | .inc_bc => "INC BC"
  | .inc_b => "INC B"
  | .dec_b => "DEC B"
  | .ld_b_d8 => "LD B,d8"
  | .rlca => "RLCA"
  | .dec_bc => "DEC BC"
  | .inc_c => "INC C"
  | .dec_c => "DEC C"
  | .ld_c_d8 => "LD C,d8"
  | .rrca => "RRCA"
  | .ld_de_d16 => "LD DE,d16"
  | .inc_de => "INC DE"
  | .inc_d => "INC D"
  | .dec_d => "DEC D"
  | .ld_d_d8 => "LD D,d8"
  | .rla => "RLA"
  | .jr_e8 => "JR e8"
  | .dec_de => "DEC DE"
  | .inc_e => "INC E"
  | .dec_e => "DEC E"
  | .ld_e_d8 => "LD E,d8"
  | .rra => "RRA"
  | .jr_nz_e8 => "JR NZ,e8"
  | .ld_hl_d16 => "LD HL,d16"
  | .inc_hl => "INC HL"
  | .inc_h => "INC H"
  | .dec_h => "DEC H"
  | .ld_h_d8 => "LD H,d8"
  | .jr_z_e8 => "JR Z,e8"
  | .dec_hl => "DEC HL"
  | .inc_l => "INC L"
  | .dec_l => "DEC L"
  | .ld_l_d8 => "LD L,d8"
  | .jr_nc_e8 => "JR NC,e8"
  | .ld_sp_d16 => "LD SP,d16"
  | .inc_sp => "INC SP"
  | .jr_c_e8 => "JR C,e8"
  | .dec_sp => "DEC SP"
  | .inc_a => "INC A"
  | .dec_a => "DEC A"
  | .ld_a_d8 => "LD A,d8"
  | .ld_b_b => "LD B,B"
  | .ld_b_c => "LD B,C"
  | .ld_b_d => "LD B,D"
  | .ld_b_e => "LD B,E"
  | .ld_b_h => "LD B,H"
  | .ld_b_l => "LD B,L"
  | .ld_b_mhl => "LD B,(HL)"
  | .ld_b_a => "LD B,A"
  | .ld_c_b => "LD C,B"
  | .ld_c_c => "LD C,C"
  | .ld_c_d => "LD C,D"
  | .ld_c_e => "LD C,E"
  | .ld_c_h => "LD C,H"
  | .ld_c_l => "LD C,L"
  | .ld_c_mhl => "LD C,(HL)"
  | .ld_c_a => "LD C,A"
  | .ld_d_b => "LD D,B"
  | .ld_d_c => "LD D,C"
  | .ld_d_d => "LD D,D"
  | .ld_d_e => "LD D,E"
  | .ld_d_h => "LD D,H"
  | .ld_d_l => "LD D,L"
  | .ld_d_mhl => "LD D,(HL)"
  | .ld_d_a => "LD D,A"
  | .ld_e_b => "LD E,B"
  | .ld_e_c => "LD E,C"
  | .ld_e_d => "LD E,D"
  | .ld_e_e => "LD E,E"
  | .ld_e_h => "LD E,H"
  | .ld_e_l => "LD E,L"
  | .ld_e_mhl => "LD E,(HL)"
  | .ld_e_a => "LD E,A"
  | .ld_h_b => "LD H,B"
  | .ld_h_c => "LD H,C"
  | .ld_h_d => "LD H,D"
  | .ld_h_e => "LD H,E"
  | .ld_h_h => "LD H,H"
  | .ld_h_l => "LD H,L"
  | .ld_h_mhl => "LD H,(HL)"
  | .ld_h_a => "LD H,A"
  | .ld_l_b => "LD L,B"
  | .ld_l_c => "LD L,C"
  | .ld_l_d => "LD L,D"
  | .ld_l_e => "LD L,E"
  | .ld_l_h => "LD L,H"
  | .ld_l_l => "LD L,L"
  | .ld_l_mhl => "LD L,(HL)"
  | .ld_l_a => "LD L,A"
  | .ld_mhl_b => "LD (HL),B"
  | .ld_mhl_c => "LD (HL),C"
  | .ld_mhl_d => "LD (HL),D"
  | .ld_mhl_e => "LD (HL),E"
  | .ld_mhl_h => "LD (HL),H"
  | .ld_mhl_l => "LD (HL),L"
  | .ld_mhl_a => "LD (HL),A"
  | .ld_a_b => "LD A,B"
  | .ld_a_c => "LD A,C"
  | .ld_a_d => "LD A,D"
  | .ld_a_e => "LD A,E"
  | .ld_a_h => "LD A,H"
  | .ld_a_l => "LD A,L"
  | .ld_a_mhl => "LD A,(HL)"
  | .ld_a_a => "LD A,A"
  | .add_a_b => "ADD A,B"
  | .add_a_c => "ADD A,C"
  | .add_a_d => "ADD A,D"
  | .add_a_e => "ADD A,E"
  | .add_a_h => "ADD A,H"
  | .add_a_l => "ADD A,L"
  | .add_a_mhl => "ADD A,(HL)"
  | .add_a_a => "ADD A,A"
  | .adc_a_b => "ADC A,B"
  | .adc_a_c => "ADC A,C"
  | .adc_a_d => "ADC A,D"
  | .adc_a_e => "ADC A,E"
  | .adc_a_h => "ADC A,H"
  | .adc_a_l => "ADC A,L"
  | .adc_a_mhl => "ADC A,(HL)"
  | .adc_a_a => "ADC A,A"
  | .sub_a_b => "SUB A,B"
  | .sub_a_c => "SUB A,C"
  | .sub_a_d => "SUB A,D"
  | .sub_a_e => "SUB A,E"
  | .sub_a_h => "SUB A,H"
  | .sub_a_l => "SUB A,L"
  | .sub_a_mhl => "SUB A,(HL)"
  | .sub_a_a => "SUB A,A"
  | .sbc_a_b => "SBC A,B"
  | .sbc_a_c => "SBC A,C"
  | .sbc_a_d => "SBC A,D"
  | .sbc_a_e => "SBC A,E"
  | .sbc_a_h => "SBC A,H"
  | .sbc_a_l => "SBC A,L"
  | .sbc_a_mhl => "SBC A,(HL)"
  | .sbc_a_a => "SBC A,A"
  | .and_a_b => "AND A,B"
  | .and_a_c => "AND A,C"
  | .and_a_d => "AND A,D"
  | .and_a_e => "AND A,E"
  | .and_a_h => "AND A,H"
  | .and_a_l => "AND A,L"
  | .and_a_mhl => "AND A,(HL)"
  | .and_a_a => "AND A,A"
  | .xor_a_b => "XOR A,B"
  | .xor_a_c => "XOR A,C"
  | .xor_a_d => "XOR A,D"
  | .xor_a_e => "XOR A,E"
  | .xor_a_h => "XOR A,H"
  | .xor_a_l => "XOR A,L"
  | .xor_a_mhl => "XOR A,(HL)"
  | .xor_a_a => "XOR A,A"
  | .or_a_b => "OR A,B"
  | .or_a_c => "OR A,C"
  | .or_a_d => "OR A,D"
  | .or_a_e => "OR A,E"
  | .or_a_h => "OR A,H"
  | .or_a_l => "OR A,L"
  | .or_a_mhl => "OR A,(HL)"
  | .or_a_a => "OR A,A"
  | .cp_a_b => "CP A,B"
  | .cp_a_c => "CP A,C"
  | .cp_a_d => "CP A,D"
  | .cp_a_e => "CP A,E"
  | .cp_a_h => "CP A,H"
  | .cp_a_l => "CP A,L"
  | .cp_a_mhl => "CP A,(HL)"
  | .cp_a_a => "CP A,A"
  | .jp_a16 => "JP a16"
  | .add_a_d8 => "ADD A,d8"
  | .ret => "RET"
  | .prefixCB => "PREFIX"
  | .call_a16 => "CALL a16"
  | .adc_a_d8 => "ADC A,d8"
  | .cls => "CLS"
  | .sub_a_d8 => "SUB A,d8"
  | .sbc_a_d8 => "SBC A,d8"
  | .and_a_d8 => "AND A,d8"
  | .xor_a_d8 => "XOR A,d8"
  | .or_a_d8 => "OR A,d8"
  | .cp_a_d8 => "CP A,d8"
  | .rlc_b => "RLC B"
  | .rlc_c => "RLC C"
  | .rlc_d => "RLC D"
  | .rlc_e => "RLC E"
  | .rlc_h => "RLC H"
  | .rlc_l => "RLC L"
  | .rlc_mhl => "RLC (HL)"
  | .rlc_a => "RLC A"
  | .rrc_b => "RRC B"
  | .rrc_c => "RRC C"
  | .rrc_d => "RRC D"
  | .rrc_e => "RRC E"
  | .rrc_h => "RRC H"
  | .rrc_l => "RRC L"
  | .rrc_mhl => "RRC (HL)"
  | .rrc_a => "RRC A"
  | .rl_b => "RL B"
  | .rl_c => "RL C"
  | .rl_d => "RL D"
  | .rl_e => "RL E"
  | .rl_h => "RL H"
  | .rl_l => "RL L"
  | .rl_mhl => "RL (HL)"
  | .rl_a => "RL A"
  | .rr_b => "RR B"
  | .rr_c => "RR C"
  | .rr_d => "RR D"
  | .rr_e => "RR E"
  | .rr_h => "RR H"
  | .rr_l => "RR L"
  | .rr_mhl => "RR (HL)"
  | .rr_a => "RR A"
  | .sla_b => "SLA B"
  | .sla_c => "SLA C"
  | .sla_d => "SLA D"
  | .sla_e => "SLA E"
  | .sla_h => "SLA H"
  | .sla_l => "SLA L"
  | .sla_mhl => "SLA (HL)"
  | .sla_a => "SLA A"
  | .sra_b => "SRA B"
  | .sra_c => "SRA C"
  | .sra_d => "SRA D"
  | .sra_e => "SRA E"
  | .sra_h => "SRA H"
  | .sra_l => "SRA L"
  | .sra_mhl => "SRA (HL)"
  | .sra_a => "SRA A"
  | .swap_b => "SWAP B"
  | .swap_c => "SWAP C"
  | .swap_d => "SWAP D"
  | .swap_e => "SWAP E"
  | .swap_h => "SWAP H"
  | .swap_l => "SWAP L"
  | .swap_mhl => "SWAP (HL)"
  | .swap_a => "SWAP A"
  | .srl_b => "SRL B"
  | .srl_c => "SRL C"
  | .srl_d => "SRL D"
  | .srl_e => "SRL E"
  | .srl_h => "SRL H"
  | .srl_l => "SRL L"
  | .srl_mhl => "SRL (HL)"
  | .srl_a => "SRL A"

end Sys2Proof
end

