-- ==== Sys2Proof/Machine/Memory.lean ====
section
/-! DEFINITION. The byte array of spec/20_memory.md R80 as a list of (address, byte) pairs in one canonical form:
addresses strictly rising and no entry equal to what an unlisted address reads as. The range and region checks are in
Machine/Ops.lean. -/

namespace Sys2Proof.Machine

/-- Memory as plain data. -/
abbrev Memory := List Host.Cell

/-- What an address that is not listed reads as: the power-on contents, 0x00 in every byte (spec/10_state.md R60,
spec/70_reset_and_hazards.md R372). -/
def Memory.unlisted : Byte := 0x00

/-- The byte at an address. -/
def Memory.read : Memory → Nat → Byte
  | [], _ => Memory.unlisted
  | (k, x) :: m, a => if k = a then x else Memory.read m a

/-- The memory without an entry for an address. -/
def Memory.erase : Memory → Nat → Memory
  | [], _ => []
  | (k, x) :: m, a => if k = a then Memory.erase m a else (k, x) :: Memory.erase m a

/-- The memory with an entry put before the first larger address. -/
def Memory.insert : Memory → Nat → Byte → Memory
  | [], a, v => [(a, v)]
  | (k, x) :: m, a, v => if a < k then (a, v) :: (k, x) :: m else (k, x) :: Memory.insert m a v

/-- Store one byte; storing what an unlisted address reads as leaves no entry. -/
def Memory.write (m : Memory) (a : Nat) (v : Byte) : Memory :=
  if v = Memory.unlisted then m.erase a else (m.erase a).insert a v

/-- Store bytes at rising addresses from `a` on. -/
def Memory.writeBytes : Memory → Nat → List Byte → Memory
  | m, _, [] => m
  | m, a, v :: vs => (m.write a v).writeBytes (a + 1) vs

/-- Every address of the memory is larger than `a`. -/
def Memory.above (a : Nat) (m : Memory) : Bool := m.all fun c => decide (a < c.1)

/-- The canonical form: addresses strictly rising, no entry that says what an unlisted address reads as. -/
def Memory.wf : Memory → Bool
  | [] => true
  | (k, x) :: m => Memory.above k m && decide (x ≠ Memory.unlisted) && Memory.wf m

end Sys2Proof.Machine
end

