-- ==== Sys2Proof/Machine/State.lean ====
section
/-! DEFINITION. The complete state of the core (spec/10_state.md R59) as plain data, its values at power-on and after
reset (R60), and the reasons a step stops. -/

namespace Sys2Proof.Machine

/-- The error taxonomy (spec/60_exceptions.md R320). An error is latched in `FAULT` and is a NEXT state of the machine,
never a stop of the model (R326; assumption log 4). -/
inductive CoreError where
  /-- Decode found no entry for byte `b`, fetched at address `address` (R321). -/
  | unknownOpcode (b : Byte) (address : Word)
  /-- The integer `v` failed a range or region check (R322). -/
  | outOfRangeAccess (v : Int)
  /-- `PushPC` at capacity (R323). -/
  | callStackOverflow
  /-- `PopPC` on an empty call stack (R324). -/
  | callStackUnderflow
  deriving DecidableEq, Repr

/-- The numeric codes of R320 (decision D28). -/
def CoreError.code : CoreError → Nat
  | .unknownOpcode _ _ => 1
  | .outOfRangeAccess _ => 2
  | .callStackOverflow => 3
  | .callStackUnderflow => 4

/-- The faults that stop the model: NONE. No state of this hardware is stuck (spec/93_implementation_defined.md, after
its table 1): an error is latched and a faulted core still has a step (spec/60_exceptions.md R327). The type has no
constructor, so that no step can stop with a fault; this is safe, since nothing the spec lets run is stopped. -/
inductive Fault where
  deriving DecidableEq, Repr

/-- What the model refuses: contract violations for which the spec gives no transition
(spec/60_exceptions.md R335). -/
inductive Refusal where
  /-- Raised by an arm of `exec` whose instruction has no meaning. No arm raises it in this model. Safe. -/
  | notModelled (mnemonic : String)
  /-- Raised by executing a `Transfer` that breaks the width rule (spec/40_pipeline.md R152). No plan of the reference
  ROM holds one, so only a constructed state can reach it. Safe. -/
  | illFormedTransfer
  /-- Raised by constructing a core whose decode ROM breaks spec/30_encoding.md R113. Safe. -/
  | illFormedRom
  /-- Raised by constructing a core with a parameter outside its range (spec/00_scope.md R7). Safe. -/
  | parameterOutOfRange
  /-- Raised by `load_rom` after the first tick (spec/20_memory.md R98, decision D19). Safe. -/
  | romLoadAfterFirstTick
  deriving DecidableEq, Repr

/-- The execution queue `Q` (spec/10_state.md R49): the map from tick number to its ordered micro-operations, held as
one list of (tick, micro-operation) pairs in firing order, ticks rising (assumption log 7). -/
abbrev Queue := List (Nat × MicroOp)

/-- The framebuffer (R58): rows of one-bit pixels. -/
abbrev FrameBuffer := Vector (Vector Bool fbCols) fbRows

/-- The framebuffer with every pixel 0. -/
def FrameBuffer.clear : FrameBuffer := Vector.replicate fbRows (Vector.replicate fbCols false)

/-- The complete state of the core (R59). Register pairs are views and are not stored (R32). -/
structure State where
  /-- `A`, the accumulator (R31). -/
  a : Byte
  /-- `F`, the flags (R38); its low four bits read 0 through `readReg8` (R39). -/
  f : Byte
  /-- `B` (R31). -/
  b : Byte
  /-- `C` (R31). -/
  c : Byte
  /-- `D` (R31). -/
  d : Byte
  /-- `E` (R31). -/
  e : Byte
  /-- `H` (R31). -/
  h : Byte
  /-- `L` (R31). -/
  l : Byte
  /-- `TH`, the high internal latch (R35). -/
  th : Byte
  /-- `TL`, the low internal latch (R35). -/
  tl : Byte
  /-- `PC` (R41). -/
  pc : Word
  /-- `SP` (R36). -/
  sp : Word
  /-- `BUS`, the bus/address latch (R34). -/
  bus : Word
  /-- `EXT`: the next decode uses the extended table (R45). -/
  ext : Bool
  /-- `SEEDED`: clear exactly when the next tick is the first since construction, reset or resume (R46). -/
  seeded : Bool
  /-- `FAULT` (R47). -/
  fault : Option CoreError
  /-- `TICK`, the tick counter (R48). -/
  tickCount : Nat
  /-- `Q`, the execution queue (R49). -/
  queue : Queue
  /-- `CS`, the call stack, bottom to top (R51). -/
  callStack : List Word
  /-- The memory (spec/20_memory.md R80). -/
  mem : Memory
  /-- `DT`, the delay timer (R55). -/
  dt : BitVec timerWidth
  /-- `ST`, the sound timer (R55). -/
  st : BitVec timerWidth
  /-- `TIMER_TICKS`, the timer domain's own counter (R56). -/
  timerTicks : Nat
  /-- `KEYS`, the input register (R57). -/
  keys : BitVec keyCount
  /-- `FB`, the framebuffer (R58). -/
  fb : FrameBuffer
  deriving DecidableEq, Repr

/-- The state at power-on of a core with parameters `p` (R60, spec/70_reset_and_hazards.md R372). -/
def State.powerOn (p : Params) : State where
  a := 0x00
  f := 0x00
  b := 0x00
  c := 0x00
  d := 0x00
  e := 0x00
  h := 0x00
  l := 0x00
  th := 0x00
  tl := 0x00
  pc := p.resetPc
  sp := 0x0000
  bus := 0x0000
  ext := false
  seeded := false
  fault := none
  tickCount := 0
  queue := []
  callStack := []
  mem := []
  dt := 0
  st := 0
  timerTicks := 0
  keys := 0
  fb := FrameBuffer.clear

/-- The machine right after reset, memory as at power-on (R60): every value is the spec's. -/
def State.reset : State := State.powerOn Params.reference

end Sys2Proof.Machine
end

