-- ==== Sys2Proof/Machine/Ops.lean ====
section
/-! DEFINITION. The named operations over the state: registers and pair views (spec/10_state.md R30 to R39), the
range-checked writes of `PC` and `SP` (R44), memory access (spec/20_memory.md R83, R84), the call stack
(spec/10_state.md R52, R53), the execution queue (spec/40_pipeline.md R160, R161), TAKING an error
(spec/60_exceptions.md R326) and RETURNING from one (R330). -/

namespace Sys2Proof.Machine

/-- How one micro-operation ends. `raised e s` hands the error `e` to the tick loop with `s`, the state as it is
committed (spec/00_scope.md R15). -/
inductive OpResult where
  | done (s : State)
  | raised (e : CoreError) (s : State)
  | refused (r : Refusal)

/-! ### Registers -/

/-- Read an 8-bit cell (R30); the low four bits of `F` read 0 (R39). -/
def readReg8 (n : Reg8) (s : State) : Byte :=
  match n with
  | .a => s.a
  | .f => maskF s.f
  | .b => s.b
  | .c => s.c
  | .d => s.d
  | .e => s.e
  | .h => s.h
  | .l => s.l
  | .th => s.th
  | .tl => s.tl

/-- Write an 8-bit cell; `F` is stored with its low four bits cleared (R39). -/
def writeReg8 (n : Reg8) (v : Byte) (s : State) : State :=
  match n with
  | .a => { s with a := v }
  | .f => { s with f := maskF v }
  | .b => { s with b := v }
  | .c => { s with c := v }
  | .d => { s with d := v }
  | .e => { s with e := v }
  | .h => { s with h := v }
  | .l => { s with l := v }
  | .th => { s with th := v }
  | .tl => { s with tl := v }

/-- Read a 16-bit name: a cell, or a pair as `{high, low}` (R32). -/
def readReg16 (n : Reg16) (s : State) : Word :=
  match n with
  | .pc => s.pc
  | .sp => s.sp
  | .bus => s.bus
  | .af => joinBytes (readReg8 .a s) (readReg8 .f s)
  | .bc => joinBytes (readReg8 .b s) (readReg8 .c s)
  | .de => joinBytes (readReg8 .d s) (readReg8 .e s)
  | .hl => joinBytes (readReg8 .h s) (readReg8 .l s)
  | .tmp => joinBytes (readReg8 .th s) (readReg8 .tl s)

/-- The range check of R44 and of every memory access: `0 ≤ v < MEM_SIZE`. -/
def inRange (p : Params) (v : Int) : Bool :=
  match v with
  | .ofNat n => decide (n < p.memSize)
  | .negSucc _ => false

/-- `pc <- v` under the range rule (R44): out of range, nothing is written. -/
def setPC (p : Params) (v : Int) (s : State) : OpResult :=
  if inRange p v then .done { s with pc := BitVec.ofInt 16 v } else .raised (.outOfRangeAccess v) s

/-- `R[SP] <- v` under the range rule (R44). -/
def setSP (p : Params) (v : Int) (s : State) : OpResult :=
  if inRange p v then .done { s with sp := BitVec.ofInt 16 v } else .raised (.outOfRangeAccess v) s

/-- Write a 16-bit name: a pair writes its two halves in one step (R33), `PC` and `SP` are range-checked (R44). -/
def writeReg16 (p : Params) (n : Reg16) (v : Word) (s : State) : OpResult :=
  match n with
  | .pc => setPC p v.toNat s
  | .sp => setSP p v.toNat s
  | .bus => .done { s with bus := v }
  | .af => .done (writeReg8 .f (loByte v) (writeReg8 .a (hiByte v) s))
  | .bc => .done (writeReg8 .c (loByte v) (writeReg8 .b (hiByte v) s))
  | .de => .done (writeReg8 .e (loByte v) (writeReg8 .d (hiByte v) s))
  | .hl => .done (writeReg8 .l (loByte v) (writeReg8 .h (hiByte v) s))
  | .tmp => .done (writeReg8 .tl (loByte v) (writeReg8 .th (hiByte v) s))

/-- Write a result byte to a cell and its flags to `F`. -/
def writeResult (n : Reg8) (r : ByteResult) (s : State) : State :=
  writeReg8 .f r.flags (writeReg8 n r.val s)

/-! ### Memory -/

/-- `MemRead(a, 1)` (spec/20_memory.md R83): both regions are readable, and reading has no side effect. -/
def memRead (p : Params) (a : Int) (s : State) : Except CoreError Byte :=
  if inRange p a then .ok (s.mem.read a.toNat) else .error (.outOfRangeAccess a)

/-- `MemWrite(a, 1, v)` (R84): an address out of range, or in the read-only program region, raises and writes
nothing. -/
def memWrite (p : Params) (a : Int) (v : Byte) (s : State) : OpResult :=
  if inRange p a then
    if a.toNat < p.progEnd then .raised (.outOfRangeAccess a) s
    else .done { s with mem := s.mem.write a.toNat v }
  else .raised (.outOfRangeAccess a) s

/-! ### The call stack -/

/-- `Push(a)` (spec/10_state.md R52): at capacity it raises and changes nothing. -/
def push (p : Params) (a : Word) (s : State) : OpResult :=
  if p.callStackCapacity ≤ s.callStack.length then .raised .callStackOverflow s
  else .done { s with callStack := s.callStack ++ [a] }

/-- `PushPC` (spec/44_control.md R296). -/
def pushPC (p : Params) (s : State) : OpResult := push p s.pc s

/-- `PopPC` (spec/44_control.md R297): the pop and the write of `PC` are one atomic step, both or neither. -/
def popPC (p : Params) (s : State) : OpResult :=
  match s.callStack.getLast? with
  | none => .raised .callStackUnderflow s
  | some t =>
    match setPC p t.toNat s with
    | .done s' => .done { s' with callStack := s.callStack.dropLast }
    | .raised e s' => .raised e s'
    | .refused r => .refused r

/-! ### The execution queue -/

/-- `schedule(t, op)` (spec/40_pipeline.md R160): `op` goes after every operation already scheduled for `t` (R163). -/
def schedule (t : Nat) (op : MicroOp) : Queue → Queue
  | [] => [(t, op)]
  | (k, o) :: q => if k ≤ t then (k, o) :: schedule t op q else (t, op) :: (k, o) :: q

/-- The operations scheduled at exactly `t`, in the order they were scheduled (R161). -/
def dueAt (t : Nat) (q : Queue) : List MicroOp := (q.filter fun x => x.1 == t).map (·.2)

/-- The queue without its entry for `t` (R161). -/
def notDueAt (t : Nat) (q : Queue) : Queue := q.filter fun x => x.1 != t

/-- Schedule a handler's pairs relative to `now`, in the order of the list (R167). -/
def scheduleAll (now : Nat) : List (Nat × MicroOp) → Queue → Queue
  | [], q => q
  | (k, op) :: ops, q => scheduleAll now ops (schedule (now + k) op q)

/-- The scheduler is `Idle` when the queue is empty (spec/10_state.md R61). -/
def State.idle (s : State) : Bool := s.queue.isEmpty

/-! ### Taking an error, and returning from one -/

/-- Taking an error (spec/60_exceptions.md R326): the error is latched, the queue is emptied, the tick counter still
advances, and everything else keeps its value. `s` is the state with every earlier write committed. -/
def takeError (e : CoreError) (s : State) : State :=
  { s with fault := some e, queue := [], tickCount := s.tickCount + 1 }

/-- The core is faulted: an error is latched (spec/10_state.md R47). -/
def State.faulted (s : State) : Bool := s.fault.isSome

/-- `resume()` (R330): the return from an error. The next tick seeds a fetch at the current `PC`. -/
def resume (s : State) : State :=
  match s.fault with
  | none => s
  | some _ => { s with fault := none, seeded := false }

/-- `reset()` (spec/70_reset_and_hazards.md R370): every piece of state to its power-on value, memory unchanged. -/
def resetCore (p : Params) (s : State) : State := { State.powerOn p with mem := s.mem }

end Sys2Proof.Machine
end

