-- ==== Sys2Proof/Machine/Operands.lean ====
section
/-! DEFINITION. The operand forms: register codes as cells (spec/30_encoding.md R116, R117), the `Transfer`
micro-operation between every pair of endpoints (spec/40_pipeline.md R153), and the timing slots that fetch an
immediate, read or write a memory operand, or work internally (R172). -/

namespace Sys2Proof.Machine

/-- The cell a register code names (spec/30_encoding.md R116). -/
def regCell : GReg → Reg8
  | .b => .b
  | .c => .c
  | .d => .d
  | .e => .e
  | .h => .h
  | .l => .l
  | .a => .a

/-- The 16-bit name of a pair code (R117). -/
def rpCell : Rp → Reg16
  | .bc => .bc
  | .de => .de
  | .hl => .hl
  | .sp => .sp

/-- The high cell of a pair (spec/10_state.md R32). -/
def pairHi : Pair → Reg8
  | .bc => .b
  | .de => .d
  | .hl => .h

/-- The low cell of a pair (R32). -/
def pairLo : Pair → Reg8
  | .bc => .c
  | .de => .e
  | .hl => .l

/-- Execution of `Transfer(src, dst)` (spec/40_pipeline.md R153): the source, and the address of a memory end, are read
when the micro-operation executes; if the read or the write raises, nothing is written. A transfer that breaks the
width rule is refused (R152). -/
def transfer (p : Params) (src dst : Endpoint) (s : State) : OpResult :=
  match src, dst with
  | .reg8 m, .reg8 n => .done (writeReg8 n (readReg8 m s) s)
  | .reg8 m, .mem q => memWrite p (readReg16 q s).toNat (readReg8 m s) s
  | .mem q, .reg8 n =>
    match memRead p (readReg16 q s).toNat s with
    | .ok v => .done (writeReg8 n v s)
    | .error e => .raised e s
  | .reg16 m, .reg16 n => writeReg16 p n (readReg16 m s) s
  | .mem _, .mem _ => .refused .illFormedTransfer
  | .reg8 _, .reg16 _ => .refused .illFormedTransfer
  | .reg16 _, .reg8 _ => .refused .illFormedTransfer
  | .reg16 _, .mem _ => .refused .illFormedTransfer
  | .mem _, .reg16 _ => .refused .illFormedTransfer

/-! ### Timing slots (spec/40_pipeline.md R172); M-cycle `m` covers the offsets `4m` to `4m+3` -/

/-- A transfer between two 16-bit names. -/
def move16 (src dst : Reg16) : MicroOp := .transfer (.reg16 src) (.reg16 dst)

/-- `ImmRead(m, dst)`: fetch the next operand byte. -/
def immRead (m : Nat) (dst : Reg8) : List (Nat × MicroOp) :=
  [(ticksPerMCycle * m, move16 .pc .bus), (ticksPerMCycle * m + 1, .effect .incPC),
    (ticksPerMCycle * m + 3, .transfer (.mem .bus) (.reg8 dst))]

/-- `MemRd(m, P, dst)`: read the memory byte at the address in `P`. -/
def memRd (m : Nat) (q : Reg16) (dst : Reg8) : List (Nat × MicroOp) :=
  [(ticksPerMCycle * m, move16 q .bus), (ticksPerMCycle * m + 3, .transfer (.mem .bus) (.reg8 dst))]

/-- `MemWr(m, P, src)`: write the memory byte at the address in `P`. -/
def memWr (m : Nat) (q : Reg16) (src : Reg8) : List (Nat × MicroOp) :=
  [(ticksPerMCycle * m, move16 q .bus), (ticksPerMCycle * m + 3, .transfer (.reg8 src) (.mem .bus))]

/-- `Internal(m, e)`: an effect at the end of the M-cycle. -/
def internal (m : Nat) (e : Effect) : List (Nat × MicroOp) := [(ticksPerMCycle * m + 3, .effect e)]

end Sys2Proof.Machine
end

