-- ==== Sys2Proof/Machine/Plans.lean ====
section
/-! DEFINITION. The handler plans: for each descriptor its (offset, micro-operation) pairs after the fetch's `IncPC`,
and its duration (spec/40_pipeline.md R169, R172, R173, and the plan of each family rule). -/

namespace Sys2Proof.Machine

/-- `LD rr,d16` (spec/41_loads.md R200). -/
def planLd16 (rr : Pair) : Plan := { ops := immRead 1 (pairHi rr) ++ immRead 2 (pairLo rr), dur := 12 }

/-- `LD SP,d16` (R201). -/
def planLdSP16 : Plan := { ops := immRead 1 .th ++ immRead 2 .tl ++ [(11, move16 .tmp .sp)], dur := 12 }

/-- `LD r,d8` (R202). -/
def planLd8I (r : GReg) : Plan := { ops := immRead 1 (regCell r), dur := 8 }

/-- `LD r,r'` (R203). -/
def planLdRR (r r' : GReg) : Plan :=
  { ops := [(3, .transfer (.reg8 (regCell r')) (.reg8 (regCell r)))], dur := 4 }

/-- `LD r,(HL)` (R204). -/
def planLdHL (r : GReg) : Plan := { ops := memRd 1 .hl (regCell r), dur := 8 }

/-- `LD (HL),r` (R205). -/
def planStHL (r : GReg) : Plan := { ops := memWr 1 .hl (regCell r), dur := 8 }

/-- `INC r` (spec/42_arith.md R220). -/
def planInc8 (r : GReg) : Plan := { ops := internal 0 (.inc8 r), dur := 4 }

/-- `DEC r` (R221). -/
def planDec8 (r : GReg) : Plan := { ops := internal 0 (.dec8 r), dur := 4 }

/-- `INC rr` (R222). -/
def planInc16 (rr : Rp) : Plan := { ops := internal 1 (.inc16 rr), dur := 8 }

/-- `DEC rr` (R223). -/
def planDec16 (rr : Rp) : Plan := { ops := internal 1 (.dec16 rr), dur := 8 }

/-- `ALU A,r` (R225, R228, R231, R234, R237, R240, R243, R246). -/
def planAluR (op : AluOp) (r : GReg) : Plan := { ops := internal 0 (.alu op (regCell r)), dur := 4 }

/-- `ALU A,(HL)` (R226, R229, R232, R235, R238, R241, R244, R247): the operation follows the read in the same tick. -/
def planAluHL (op : AluOp) : Plan := { ops := memRd 1 .hl .tl ++ internal 1 (.alu op .tl), dur := 8 }

/-- `ALU A,d8` (R227, R230, R233, R236, R239, R242, R245, R248). -/
def planAluI (op : AluOp) : Plan := { ops := immRead 1 .tl ++ internal 1 (.alu op .tl), dur := 8 }

/-- The accumulator rotates (spec/43_rotate_shift.md R260 to R263). -/
def planRotA (op : RotAOp) : Plan := { ops := internal 0 (.rotA op), dur := 4 }

/-- The extended `op r`, after the prefix's four ticks (R265 to R279). -/
def planCbR (op : CbOp) (r : GReg) : Plan := { ops := internal 0 (.cb op (regCell r)), dur := 4 }

/-- The extended `op (HL)` (R266 to R280): read and operation at +7, write at +11. -/
def planCbHL (op : CbOp) : Plan :=
  { ops := memRd 1 .hl .tl ++ internal 1 (.cb op .tl) ++ [(11, .transfer (.reg8 .tl) (.mem .bus))], dur := 12 }

/-- `JR e8`, and a conditional `JR` that is taken (spec/44_control.md R291, R292). -/
def planJumpRel : Plan := { ops := immRead 1 .tl ++ internal 2 .jumpRel, dur := 12 }

/-- A conditional `JR` that is not taken: the displacement is read all the same (R292). -/
def planNoJump : Plan := { ops := immRead 1 .tl, dur := 8 }

/-- `JP a16` (R298). -/
def planJp : Plan := { ops := immRead 1 .th ++ immRead 2 .tl ++ [(15, move16 .tmp .pc)], dur := 16 }

/-- `CALL a16` (R299). -/
def planCall : Plan :=
  { ops := immRead 1 .th ++ immRead 2 .tl ++ internal 4 .pushPC ++ [(23, move16 .tmp .pc)], dur := 24 }

/-- `RET` (R300). -/
def planRet : Plan := { ops := [(15, .effect .popPC)], dur := 16 }

/-- `NOP` (spec/45_system.md R310). -/
def planNop : Plan := { ops := [], dur := 4 }

/-- `PREFIX` (R311): its effect, `EXT <- 1`, is the decode's own. -/
def planPrefix : Plan := { ops := [], dur := 4 }

/-- `CLS` (R312). -/
def planCls : Plan := { ops := internal 0 .clearFB, dur := 4 }

/-- The plan of a descriptor, given whether its branch condition holds at the fetch (R170). -/
def planFor (d : Descriptor) (taken : Bool) : Plan :=
  match d with
  | .nop => planNop
  | .ld16 rr => planLd16 rr
  | .ldSP16 => planLdSP16
  | .ld8I r => planLd8I r
  | .ldRR r r' => planLdRR r r'
  | .ldHL r => planLdHL r
  | .stHL r => planStHL r
  | .inc8 r => planInc8 r
  | .dec8 r => planDec8 r
  | .inc16 rr => planInc16 rr
  | .dec16 rr => planDec16 rr
  | .aluR op r => planAluR op r
  | .aluHL op => planAluHL op
  | .aluI op => planAluI op
  | .rotA op => planRotA op
  | .jr => planJumpRel
  | .jrCC _ => if taken then planJumpRel else planNoJump
  | .jp => planJp
  | .call => planCall
  | .ret => planRet
  | .prefixCB => planPrefix
  | .cls => planCls
  | .cbR op r => planCbR op r
  | .cbHL op => planCbHL op

/-- Whether the branch condition of a descriptor holds of the flags; a descriptor without one is always taken. -/
def branchTaken (d : Descriptor) (f : Byte) : Bool :=
  match d with
  | .jrCC cc => condition cc f
  | .nop | .ld16 _ | .ldSP16 | .ld8I _ | .ldRR _ _ | .ldHL _ | .stHL _ | .inc8 _ | .dec8 _ | .inc16 _ | .dec16 _
  | .aluR _ _ | .aluHL _ | .aluI _ | .rotA _ | .jr | .jp | .call | .ret | .prefixCB | .cls | .cbR _ _ | .cbHL _ => true

/-- `plan(d, state)` (R169): it reads the flags where a branch condition asks for them, and writes nothing. -/
def plan (d : Descriptor) (s : State) : Plan := planFor d (branchTaken d s.f)

end Sys2Proof.Machine
end

