-- ==== Sys2Proof/Machine/Effects.lean ====
section
/-! DEFINITION. The fetch-decode-execute step (spec/40_pipeline.md R167, R168) and the execution of every
micro-operation (R153, R154). -/

namespace Sys2Proof.Machine

/-! ### Fetch, decode, execute -/

/-- The fetch and the decode of a boundary (R167): the byte at `PC`, looked up in the table `EXT` selects. The prefix
flag is one-shot, so a failing decode has cleared it (R168); nothing is scheduled. -/
def fetchDecode (p : Params) (s : State) : Except (CoreError × State) Instr :=
  match memRead p s.pc.toNat s with
  | .error e => .error (e, s)
  | .ok b =>
    match p.rom s.ext b with
    | none => .error (.unknownOpcode b s.pc, { s with ext := false })
    | some i => .ok i

/-- The execute half of a boundary at `now = TICK` (R167): `EXT` is set by the prefix and cleared by any other
descriptor (R168); the increment of `PC` is scheduled first, then the handler's plan, then the next boundary. -/
def issue (d : Descriptor) (s : State) : State :=
  let now := s.tickCount
  let pl := plan d s
  { s with
    ext := decide (d = .prefixCB)
    queue := schedule (now + pl.dur) (.effect .fde)
      (scheduleAll now pl.ops (schedule (now + 1) (.effect .incPC) s.queue)) }

/-- `FDE(now)` (R167). -/
def fetchDecodeExecute (p : Params) (s : State) : OpResult :=
  match fetchDecode p s with
  | .error (e, s') => .raised e s'
  | .ok i => .done (issue i.descriptor s)

/-! ### Effects -/

/-- `IncPC` (R155): no wrap at the top of memory. -/
def incPC (p : Params) (s : State) : OpResult := setPC p ((s.pc.toNat : Int) + 1) s

/-- `JumpRel` (spec/44_control.md R290): the target is an unwrapped integer. -/
def jumpRel (p : Params) (s : State) : OpResult := setPC p ((s.pc.toNat : Int) + sext8 (readReg8 .tl s)) s

/-- `Inc8(r)` (spec/42_arith.md R220). -/
def effectInc8 (r : GReg) (s : State) : State :=
  writeResult (regCell r) (inc8Result (readReg8 (regCell r) s) (readReg8 .f s)) s

/-- `Dec8(r)` (R221). -/
def effectDec8 (r : GReg) (s : State) : State :=
  writeResult (regCell r) (dec8Result (readReg8 (regCell r) s) (readReg8 .f s)) s

/-- `Inc16(rr)` (R222): wraps at 16 bits, then the write of `SP` is range-checked. -/
def effectInc16 (p : Params) (rr : Rp) (s : State) : OpResult :=
  writeReg16 p (rpCell rr) (inc16Result (readReg16 (rpCell rr) s)) s

/-- `Dec16(rr)` (R223). -/
def effectDec16 (p : Params) (rr : Rp) (s : State) : OpResult :=
  writeReg16 p (rpCell rr) (dec16Result (readReg16 (rpCell rr) s)) s

/-- `Alu(op, s)` (R224): every operand is read before anything is written. -/
def effectAlu (op : AluOp) (n : Reg8) (s : State) : State :=
  writeResult .a (aluResult op (readReg8 .a s) (readReg8 n s) (readReg8 .f s)) s

/-- `RotA(op)` (spec/43_rotate_shift.md R260 to R263). -/
def effectRotA (op : RotAOp) (s : State) : State :=
  writeResult .a (rotAResult op (readReg8 .a s) (readReg8 .f s)) s

/-- `Cb(op, t)` (R264). -/
def effectCb (op : CbOp) (n : Reg8) (s : State) : State :=
  writeResult n (cbResult op (readReg8 n s) (readReg8 .f s)) s

/-- `ClearFB` (spec/45_system.md R312): the whole buffer in one step. -/
def clearFB (s : State) : State := { s with fb := FrameBuffer.clear }

/-- Execution of an effect (R154). -/
def runEffect (p : Params) (e : Effect) (s : State) : OpResult :=
  match e with
  | .incPC => incPC p s
  | .fde => fetchDecodeExecute p s
  | .inc8 r => .done (effectInc8 r s)
  | .dec8 r => .done (effectDec8 r s)
  | .inc16 rr => effectInc16 p rr s
  | .dec16 rr => effectDec16 p rr s
  | .alu op n => .done (effectAlu op n s)
  | .rotA op => .done (effectRotA op s)
  | .cb op n => .done (effectCb op n s)
  | .jumpRel => jumpRel p s
  | .pushPC => pushPC p s
  | .popPC => popPC p s
  | .clearFB => .done (clearFB s)

/-- Execution of a micro-operation (R150, R153, R154). -/
def runOp (p : Params) (op : MicroOp) (s : State) : OpResult :=
  match op with
  | .transfer src dst => transfer p src dst s
  | .effect e => runEffect p e s

/-- Execution of micro-operations in order; the first that raises ends the list (spec/60_exceptions.md R328). -/
def runOps (p : Params) : List MicroOp → State → OpResult
  | [], s => .done s
  | op :: ops, s =>
    match runOp p op s with
    | .done s' => runOps p ops s'
    | .raised e s' => .raised e s'
    | .refused r => .refused r

end Sys2Proof.Machine
end

