-- ==== Sys2Proof/Machine/Tick.lean ====
section
/-! DEFINITION. The tick loop (spec/40_pipeline.md R165, R166), the run of one instruction from its boundary to the
next (R174, R176), and the step of the machine over whole instructions. -/

namespace Sys2Proof.Machine

/-- The outcome of a tick or a step of this machine. -/
abbrev StepOutcome := Host.Outcome State Fault Refusal

/-- The end of a `tick()` (R165): the tick counter advances, or the error is taken. -/
def endTick : OpResult → StepOutcome
  | .done s => .next { s with tickCount := s.tickCount + 1 }
  | .raised e s => .next (takeError e s)
  | .refused r => .refused r

/-- Seeding (R166): on the first tick the fetch-decode-execute step runs at once, before the drain. -/
def seed (p : Params) (s : State) : OpResult :=
  if s.seeded then .done s else fetchDecodeExecute p { s with seeded := true }

/-- `drain(TICK)` and the execution of what it returns (R161, R165). -/
def runDue (p : Params) (s : State) : OpResult :=
  runOps p (dueAt s.tickCount s.queue) { s with queue := notDueAt s.tickCount s.queue }

/-- `tick()` (R165). A faulted core changes no state (spec/60_exceptions.md R327). -/
def tick (p : Params) (s : State) : StepOutcome :=
  if s.faulted then .next s
  else
    match seed p s with
    | .done s' => endTick (runDue p s')
    | .raised e s' => endTick (.raised e s')
    | .refused r => endTick (.refused r)

/-- `n` calls of `tick()`. -/
def ticks (p : Params) : Nat → State → StepOutcome
  | 0, s => .next s
  | n + 1, s =>
    match tick p s with
    | .next s' => ticks p n s'
    | .fault r => .fault r
    | .refused r => .refused r

/-- The run of one instruction with descriptor `d`, from the boundary at which it is decoded to the next boundary or
to its error: its plan is issued at the current tick, and the remaining ticks of its duration run. No other
micro-operation is pending at a boundary (R174; assumption log 6). A faulted core runs nothing (R327). -/
def runDescriptor (d : Descriptor) (s : State) : StepOutcome :=
  if s.faulted then .next s
  else
    let s' := issue d { s with seeded := true, queue := [] }
    ticks Params.reference ((plan d s).dur - 1) { s' with tickCount := s'.tickCount + 1 }

/-- The core is at an instruction boundary: the next tick runs a fetch-decode-execute step and nothing else is pending
(R166, R177). -/
def State.atBoundary (s : State) : Bool :=
  if s.seeded then decide (s.queue = [(s.tickCount, .effect .fde)]) else s.queue.isEmpty

/-- The step of the machine over whole instructions, given their meanings: at a boundary the instruction fetched runs to
the next boundary, an unknown opcode takes its error at once, and between boundaries one tick passes
(assumption log 3). -/
def stepWith (meaning : Instr → State → StepOutcome) (s : State) : StepOutcome :=
  if s.faulted then .next s
  else if s.atBoundary then
    match fetchDecode Params.reference s with
    | .error (e, s') => .next (takeError e { s' with seeded := true })
    | .ok i => meaning i s
  else tick Params.reference s

/-! ### Placing an instruction where the next step fetches it -/

/-- Store bytes from an address on, as far as the address space goes; the region check of an instruction's store does
not apply, since this stands for the ROM load (assumption log 1). -/
def placeBytes (a : Nat) (bytes : List Byte) (m : Memory) : Memory :=
  m.writeBytes a (bytes.take (Params.reference.memSize - a))

/-- The bytes of a table word from the byte that the boundary fetches on: for an extended instruction the byte after
the prefix, since the prefix is a boundary of its own (spec/30_encoding.md R114). -/
def fetchedBytes (nbits w : Nat) : Bool × List Byte :=
  match tableBytes nbits w with
  | b :: rest => if 8 < nbits ∧ b = Params.reference.prefixByte then (true, rest) else (false, b :: rest)
  | [] => (false, [])

/-- The state in which the next step fetches the instruction of a table word: its bytes at `PC`, `EXT` as the prefix
leaves it for an extended instruction, no error latched, and the core at a boundary. -/
def placeTableWord (s : State) (nbits w : Nat) : State :=
  let s' := { s with
    ext := (fetchedBytes nbits w).1
    fault := none
    mem := placeBytes s.pc.toNat (((fetchedBytes nbits w).2 ++ [0, 0]).take 3) s.mem }
  if s'.atBoundary then s' else { s' with seeded := false, queue := [] }

end Sys2Proof.Machine
end

