-- ==== Sys2Proof/Machine/Arith.lean ====
section
/-! DEFINITION. The arithmetic and logic instructions (spec/42_arith.md): one meaning per table row, the run of its descriptor's plan from
its boundary to the next. The plans are in Machine/Plans.lean, the micro-operations in Machine/Effects.lean. -/

namespace Sys2Proof.Machine

/-- `INC BC` (R222). -/
def execInc_bc (s : State) : StepOutcome := runDescriptor (.inc16 .bc) s

/-- `INC B` (R220). -/
def execInc_b (s : State) : StepOutcome := runDescriptor (.inc8 .b) s

/-- `DEC B` (R221). -/
def execDec_b (s : State) : StepOutcome := runDescriptor (.dec8 .b) s

/-- `DEC BC` (R223). -/
def execDec_bc (s : State) : StepOutcome := runDescriptor (.dec16 .bc) s

/-- `INC C` (R220). -/
def execInc_c (s : State) : StepOutcome := runDescriptor (.inc8 .c) s

/-- `DEC C` (R221). -/
def execDec_c (s : State) : StepOutcome := runDescriptor (.dec8 .c) s

/-- `INC DE` (R222). -/
def execInc_de (s : State) : StepOutcome := runDescriptor (.inc16 .de) s

/-- `INC D` (R220). -/
def execInc_d (s : State) : StepOutcome := runDescriptor (.inc8 .d) s

/-- `DEC D` (R221). -/
def execDec_d (s : State) : StepOutcome := runDescriptor (.dec8 .d) s

/-- `DEC DE` (R223). -/
def execDec_de (s : State) : StepOutcome := runDescriptor (.dec16 .de) s

/-- `INC E` (R220). -/
def execInc_e (s : State) : StepOutcome := runDescriptor (.inc8 .e) s

/-- `DEC E` (R221). -/
def execDec_e (s : State) : StepOutcome := runDescriptor (.dec8 .e) s

/-- `INC HL` (R222). -/
def execInc_hl (s : State) : StepOutcome := runDescriptor (.inc16 .hl) s

/-- `INC H` (R220). -/
def execInc_h (s : State) : StepOutcome := runDescriptor (.inc8 .h) s

/-- `DEC H` (R221). -/
def execDec_h (s : State) : StepOutcome := runDescriptor (.dec8 .h) s

/-- `DEC HL` (R223). -/
def execDec_hl (s : State) : StepOutcome := runDescriptor (.dec16 .hl) s

/-- `INC L` (R220). -/
def execInc_l (s : State) : StepOutcome := runDescriptor (.inc8 .l) s

/-- `DEC L` (R221). -/
def execDec_l (s : State) : StepOutcome := runDescriptor (.dec8 .l) s

/-- `INC SP` (R222). -/
def execInc_sp (s : State) : StepOutcome := runDescriptor (.inc16 .sp) s

/-- `DEC SP` (R223). -/
def execDec_sp (s : State) : StepOutcome := runDescriptor (.dec16 .sp) s

/-- `INC A` (R220). -/
def execInc_a (s : State) : StepOutcome := runDescriptor (.inc8 .a) s

/-- `DEC A` (R221). -/
def execDec_a (s : State) : StepOutcome := runDescriptor (.dec8 .a) s

/-- `ADD A,B` (R225). -/
def execAdd_a_b (s : State) : StepOutcome := runDescriptor (.aluR .add .b) s

/-- `ADD A,C` (R225). -/
def execAdd_a_c (s : State) : StepOutcome := runDescriptor (.aluR .add .c) s

/-- `ADD A,D` (R225). -/
def execAdd_a_d (s : State) : StepOutcome := runDescriptor (.aluR .add .d) s

/-- `ADD A,E` (R225). -/
def execAdd_a_e (s : State) : StepOutcome := runDescriptor (.aluR .add .e) s

/-- `ADD A,H` (R225). -/
def execAdd_a_h (s : State) : StepOutcome := runDescriptor (.aluR .add .h) s

/-- `ADD A,L` (R225). -/
def execAdd_a_l (s : State) : StepOutcome := runDescriptor (.aluR .add .l) s

/-- `ADD A,(HL)` (R226). -/
def execAdd_a_mhl (s : State) : StepOutcome := runDescriptor (.aluHL .add) s

/-- `ADD A,A` (R225). -/
def execAdd_a_a (s : State) : StepOutcome := runDescriptor (.aluR .add .a) s

/-- `ADC A,B` (R228). -/
def execAdc_a_b (s : State) : StepOutcome := runDescriptor (.aluR .adc .b) s

/-- `ADC A,C` (R228). -/
def execAdc_a_c (s : State) : StepOutcome := runDescriptor (.aluR .adc .c) s

/-- `ADC A,D` (R228). -/
def execAdc_a_d (s : State) : StepOutcome := runDescriptor (.aluR .adc .d) s

/-- `ADC A,E` (R228). -/
def execAdc_a_e (s : State) : StepOutcome := runDescriptor (.aluR .adc .e) s

/-- `ADC A,H` (R228). -/
def execAdc_a_h (s : State) : StepOutcome := runDescriptor (.aluR .adc .h) s

/-- `ADC A,L` (R228). -/
def execAdc_a_l (s : State) : StepOutcome := runDescriptor (.aluR .adc .l) s

/-- `ADC A,(HL)` (R229). -/
def execAdc_a_mhl (s : State) : StepOutcome := runDescriptor (.aluHL .adc) s

/-- `ADC A,A` (R228). -/
def execAdc_a_a (s : State) : StepOutcome := runDescriptor (.aluR .adc .a) s

/-- `SUB A,B` (R231). -/
def execSub_a_b (s : State) : StepOutcome := runDescriptor (.aluR .sub .b) s

/-- `SUB A,C` (R231). -/
def execSub_a_c (s : State) : StepOutcome := runDescriptor (.aluR .sub .c) s

/-- `SUB A,D` (R231). -/
def execSub_a_d (s : State) : StepOutcome := runDescriptor (.aluR .sub .d) s

/-- `SUB A,E` (R231). -/
def execSub_a_e (s : State) : StepOutcome := runDescriptor (.aluR .sub .e) s

/-- `SUB A,H` (R231). -/
def execSub_a_h (s : State) : StepOutcome := runDescriptor (.aluR .sub .h) s

/-- `SUB A,L` (R231). -/
def execSub_a_l (s : State) : StepOutcome := runDescriptor (.aluR .sub .l) s

/-- `SUB A,(HL)` (R232). -/
def execSub_a_mhl (s : State) : StepOutcome := runDescriptor (.aluHL .sub) s

/-- `SUB A,A` (R231). -/
def execSub_a_a (s : State) : StepOutcome := runDescriptor (.aluR .sub .a) s

/-- `SBC A,B` (R234). -/
def execSbc_a_b (s : State) : StepOutcome := runDescriptor (.aluR .sbc .b) s

/-- `SBC A,C` (R234). -/
def execSbc_a_c (s : State) : StepOutcome := runDescriptor (.aluR .sbc .c) s

/-- `SBC A,D` (R234). -/
def execSbc_a_d (s : State) : StepOutcome := runDescriptor (.aluR .sbc .d) s

/-- `SBC A,E` (R234). -/
def execSbc_a_e (s : State) : StepOutcome := runDescriptor (.aluR .sbc .e) s

/-- `SBC A,H` (R234). -/
def execSbc_a_h (s : State) : StepOutcome := runDescriptor (.aluR .sbc .h) s

/-- `SBC A,L` (R234). -/
def execSbc_a_l (s : State) : StepOutcome := runDescriptor (.aluR .sbc .l) s

/-- `SBC A,(HL)` (R235). -/
def execSbc_a_mhl (s : State) : StepOutcome := runDescriptor (.aluHL .sbc) s

/-- `SBC A,A` (R234). -/
def execSbc_a_a (s : State) : StepOutcome := runDescriptor (.aluR .sbc .a) s

/-- `AND A,B` (R237). -/
def execAnd_a_b (s : State) : StepOutcome := runDescriptor (.aluR .and .b) s

/-- `AND A,C` (R237). -/
def execAnd_a_c (s : State) : StepOutcome := runDescriptor (.aluR .and .c) s

/-- `AND A,D` (R237). -/
def execAnd_a_d (s : State) : StepOutcome := runDescriptor (.aluR .and .d) s

/-- `AND A,E` (R237). -/
def execAnd_a_e (s : State) : StepOutcome := runDescriptor (.aluR .and .e) s

/-- `AND A,H` (R237). -/
def execAnd_a_h (s : State) : StepOutcome := runDescriptor (.aluR .and .h) s

/-- `AND A,L` (R237). -/
def execAnd_a_l (s : State) : StepOutcome := runDescriptor (.aluR .and .l) s

/-- `AND A,(HL)` (R238). -/
def execAnd_a_mhl (s : State) : StepOutcome := runDescriptor (.aluHL .and) s

/-- `AND A,A` (R237). -/
def execAnd_a_a (s : State) : StepOutcome := runDescriptor (.aluR .and .a) s

/-- `XOR A,B` (R240). -/
def execXor_a_b (s : State) : StepOutcome := runDescriptor (.aluR .xor .b) s

/-- `XOR A,C` (R240). -/
def execXor_a_c (s : State) : StepOutcome := runDescriptor (.aluR .xor .c) s

/-- `XOR A,D` (R240). -/
def execXor_a_d (s : State) : StepOutcome := runDescriptor (.aluR .xor .d) s

/-- `XOR A,E` (R240). -/
def execXor_a_e (s : State) : StepOutcome := runDescriptor (.aluR .xor .e) s

/-- `XOR A,H` (R240). -/
def execXor_a_h (s : State) : StepOutcome := runDescriptor (.aluR .xor .h) s

/-- `XOR A,L` (R240). -/
def execXor_a_l (s : State) : StepOutcome := runDescriptor (.aluR .xor .l) s

/-- `XOR A,(HL)` (R241). -/
def execXor_a_mhl (s : State) : StepOutcome := runDescriptor (.aluHL .xor) s

/-- `XOR A,A` (R240). -/
def execXor_a_a (s : State) : StepOutcome := runDescriptor (.aluR .xor .a) s

/-- `OR A,B` (R243). -/
def execOr_a_b (s : State) : StepOutcome := runDescriptor (.aluR .or .b) s

/-- `OR A,C` (R243). -/
def execOr_a_c (s : State) : StepOutcome := runDescriptor (.aluR .or .c) s

/-- `OR A,D` (R243). -/
def execOr_a_d (s : State) : StepOutcome := runDescriptor (.aluR .or .d) s

/-- `OR A,E` (R243). -/
def execOr_a_e (s : State) : StepOutcome := runDescriptor (.aluR .or .e) s

/-- `OR A,H` (R243). -/
def execOr_a_h (s : State) : StepOutcome := runDescriptor (.aluR .or .h) s

/-- `OR A,L` (R243). -/
def execOr_a_l (s : State) : StepOutcome := runDescriptor (.aluR .or .l) s

/-- `OR A,(HL)` (R244). -/
def execOr_a_mhl (s : State) : StepOutcome := runDescriptor (.aluHL .or) s

/-- `OR A,A` (R243). -/
def execOr_a_a (s : State) : StepOutcome := runDescriptor (.aluR .or .a) s

/-- `CP A,B` (R246). -/
def execCp_a_b (s : State) : StepOutcome := runDescriptor (.aluR .cp .b) s

/-- `CP A,C` (R246). -/
def execCp_a_c (s : State) : StepOutcome := runDescriptor (.aluR .cp .c) s

/-- `CP A,D` (R246). -/
def execCp_a_d (s : State) : StepOutcome := runDescriptor (.aluR .cp .d) s

/-- `CP A,E` (R246). -/
def execCp_a_e (s : State) : StepOutcome := runDescriptor (.aluR .cp .e) s

/-- `CP A,H` (R246). -/
def execCp_a_h (s : State) : StepOutcome := runDescriptor (.aluR .cp .h) s

/-- `CP A,L` (R246). -/
def execCp_a_l (s : State) : StepOutcome := runDescriptor (.aluR .cp .l) s

/-- `CP A,(HL)` (R247). -/
def execCp_a_mhl (s : State) : StepOutcome := runDescriptor (.aluHL .cp) s

/-- `CP A,A` (R246). -/
def execCp_a_a (s : State) : StepOutcome := runDescriptor (.aluR .cp .a) s

/-- `ADD A,d8` (R227). -/
def execAdd_a_d8 (s : State) : StepOutcome := runDescriptor (.aluI .add) s

/-- `ADC A,d8` (R230). -/
def execAdc_a_d8 (s : State) : StepOutcome := runDescriptor (.aluI .adc) s

/-- `SUB A,d8` (R233). -/
def execSub_a_d8 (s : State) : StepOutcome := runDescriptor (.aluI .sub) s

/-- `SBC A,d8` (R236). -/
def execSbc_a_d8 (s : State) : StepOutcome := runDescriptor (.aluI .sbc) s

/-- `AND A,d8` (R239). -/
def execAnd_a_d8 (s : State) : StepOutcome := runDescriptor (.aluI .and) s

/-- `XOR A,d8` (R242). -/
def execXor_a_d8 (s : State) : StepOutcome := runDescriptor (.aluI .xor) s

/-- `OR A,d8` (R245). -/
def execOr_a_d8 (s : State) : StepOutcome := runDescriptor (.aluI .or) s

/-- `CP A,d8` (R248). -/
def execCp_a_d8 (s : State) : StepOutcome := runDescriptor (.aluI .cp) s

end Sys2Proof.Machine
end

