-- ==== Sys2Proof/Machine/Control.lean ====
section
/-! DEFINITION. The jumps, the call and the return (spec/44_control.md): one meaning per table row, the run of its descriptor's plan from
its boundary to the next. The plans are in Machine/Plans.lean, the micro-operations in Machine/Effects.lean. -/

namespace Sys2Proof.Machine

/-- `JR e8` (R291). -/
def execJr_e8 (s : State) : StepOutcome := runDescriptor (.jr) s

/-- `JR NZ,e8` (R292). -/
def execJr_nz_e8 (s : State) : StepOutcome := runDescriptor (.jrCC .nz) s

/-- `JR Z,e8` (R293). -/
def execJr_z_e8 (s : State) : StepOutcome := runDescriptor (.jrCC .z) s

/-- `JR NC,e8` (R294). -/
def execJr_nc_e8 (s : State) : StepOutcome := runDescriptor (.jrCC .nc) s

/-- `JR C,e8` (R295). -/
def execJr_c_e8 (s : State) : StepOutcome := runDescriptor (.jrCC .c) s

/-- `JP a16` (R298). -/
def execJp_a16 (s : State) : StepOutcome := runDescriptor (.jp) s

/-- `RET` (R300). -/
def execRet (s : State) : StepOutcome := runDescriptor (.ret) s

/-- `CALL a16` (R299). -/
def execCall_a16 (s : State) : StepOutcome := runDescriptor (.call) s

end Sys2Proof.Machine
end

