-- ==== Sys2Proof/Machine/Loads.lean ====
section
/-! DEFINITION. The load instructions (spec/41_loads.md): one meaning per table row, the run of its descriptor's plan from
its boundary to the next. The plans are in Machine/Plans.lean, the micro-operations in Machine/Effects.lean. -/

namespace Sys2Proof.Machine

/-- `LD BC,d16` (R200). -/
def execLd_bc_d16 (s : State) : StepOutcome := runDescriptor (.ld16 .bc) s

/-- `LD B,d8` (R202). -/
def execLd_b_d8 (s : State) : StepOutcome := runDescriptor (.ld8I .b) s

/-- `LD C,d8` (R202). -/
def execLd_c_d8 (s : State) : StepOutcome := runDescriptor (.ld8I .c) s

/-- `LD DE,d16` (R200). -/
def execLd_de_d16 (s : State) : StepOutcome := runDescriptor (.ld16 .de) s

/-- `LD D,d8` (R202). -/
def execLd_d_d8 (s : State) : StepOutcome := runDescriptor (.ld8I .d) s

/-- `LD E,d8` (R202). -/
def execLd_e_d8 (s : State) : StepOutcome := runDescriptor (.ld8I .e) s

/-- `LD HL,d16` (R200). -/
def execLd_hl_d16 (s : State) : StepOutcome := runDescriptor (.ld16 .hl) s

/-- `LD H,d8` (R202). -/
def execLd_h_d8 (s : State) : StepOutcome := runDescriptor (.ld8I .h) s

/-- `LD L,d8` (R202). -/
def execLd_l_d8 (s : State) : StepOutcome := runDescriptor (.ld8I .l) s

/-- `LD SP,d16` (R201). -/
def execLd_sp_d16 (s : State) : StepOutcome := runDescriptor (.ldSP16) s

/-- `LD A,d8` (R202). -/
def execLd_a_d8 (s : State) : StepOutcome := runDescriptor (.ld8I .a) s

/-- `LD B,B` (R203). -/
def execLd_b_b (s : State) : StepOutcome := runDescriptor (.ldRR .b .b) s

/-- `LD B,C` (R203). -/
def execLd_b_c (s : State) : StepOutcome := runDescriptor (.ldRR .b .c) s

/-- `LD B,D` (R203). -/
def execLd_b_d (s : State) : StepOutcome := runDescriptor (.ldRR .b .d) s

/-- `LD B,E` (R203). -/
def execLd_b_e (s : State) : StepOutcome := runDescriptor (.ldRR .b .e) s

/-- `LD B,H` (R203). -/
def execLd_b_h (s : State) : StepOutcome := runDescriptor (.ldRR .b .h) s

/-- `LD B,L` (R203). -/
def execLd_b_l (s : State) : StepOutcome := runDescriptor (.ldRR .b .l) s

/-- `LD B,(HL)` (R204). -/
def execLd_b_mhl (s : State) : StepOutcome := runDescriptor (.ldHL .b) s

/-- `LD B,A` (R203). -/
def execLd_b_a (s : State) : StepOutcome := runDescriptor (.ldRR .b .a) s

/-- `LD C,B` (R203). -/
def execLd_c_b (s : State) : StepOutcome := runDescriptor (.ldRR .c .b) s

/-- `LD C,C` (R203). -/
def execLd_c_c (s : State) : StepOutcome := runDescriptor (.ldRR .c .c) s

/-- `LD C,D` (R203). -/
def execLd_c_d (s : State) : StepOutcome := runDescriptor (.ldRR .c .d) s

/-- `LD C,E` (R203). -/
def execLd_c_e (s : State) : StepOutcome := runDescriptor (.ldRR .c .e) s

/-- `LD C,H` (R203). -/
def execLd_c_h (s : State) : StepOutcome := runDescriptor (.ldRR .c .h) s

/-- `LD C,L` (R203). -/
def execLd_c_l (s : State) : StepOutcome := runDescriptor (.ldRR .c .l) s

/-- `LD C,(HL)` (R204). -/
def execLd_c_mhl (s : State) : StepOutcome := runDescriptor (.ldHL .c) s

/-- `LD C,A` (R203). -/
def execLd_c_a (s : State) : StepOutcome := runDescriptor (.ldRR .c .a) s

/-- `LD D,B` (R203). -/
def execLd_d_b (s : State) : StepOutcome := runDescriptor (.ldRR .d .b) s

/-- `LD D,C` (R203). -/
def execLd_d_c (s : State) : StepOutcome := runDescriptor (.ldRR .d .c) s

/-- `LD D,D` (R203). -/
def execLd_d_d (s : State) : StepOutcome := runDescriptor (.ldRR .d .d) s

/-- `LD D,E` (R203). -/
def execLd_d_e (s : State) : StepOutcome := runDescriptor (.ldRR .d .e) s

/-- `LD D,H` (R203). -/
def execLd_d_h (s : State) : StepOutcome := runDescriptor (.ldRR .d .h) s

/-- `LD D,L` (R203). -/
def execLd_d_l (s : State) : StepOutcome := runDescriptor (.ldRR .d .l) s

/-- `LD D,(HL)` (R204). -/
def execLd_d_mhl (s : State) : StepOutcome := runDescriptor (.ldHL .d) s

/-- `LD D,A` (R203). -/
def execLd_d_a (s : State) : StepOutcome := runDescriptor (.ldRR .d .a) s

/-- `LD E,B` (R203). -/
def execLd_e_b (s : State) : StepOutcome := runDescriptor (.ldRR .e .b) s

/-- `LD E,C` (R203). -/
def execLd_e_c (s : State) : StepOutcome := runDescriptor (.ldRR .e .c) s

/-- `LD E,D` (R203). -/
def execLd_e_d (s : State) : StepOutcome := runDescriptor (.ldRR .e .d) s

/-- `LD E,E` (R203). -/
def execLd_e_e (s : State) : StepOutcome := runDescriptor (.ldRR .e .e) s

/-- `LD E,H` (R203). -/
def execLd_e_h (s : State) : StepOutcome := runDescriptor (.ldRR .e .h) s

/-- `LD E,L` (R203). -/
def execLd_e_l (s : State) : StepOutcome := runDescriptor (.ldRR .e .l) s

/-- `LD E,(HL)` (R204). -/
def execLd_e_mhl (s : State) : StepOutcome := runDescriptor (.ldHL .e) s

/-- `LD E,A` (R203). -/
def execLd_e_a (s : State) : StepOutcome := runDescriptor (.ldRR .e .a) s

/-- `LD H,B` (R203). -/
def execLd_h_b (s : State) : StepOutcome := runDescriptor (.ldRR .h .b) s

/-- `LD H,C` (R203). -/
def execLd_h_c (s : State) : StepOutcome := runDescriptor (.ldRR .h .c) s

/-- `LD H,D` (R203). -/
def execLd_h_d (s : State) : StepOutcome := runDescriptor (.ldRR .h .d) s

/-- `LD H,E` (R203). -/
def execLd_h_e (s : State) : StepOutcome := runDescriptor (.ldRR .h .e) s

/-- `LD H,H` (R203). -/
def execLd_h_h (s : State) : StepOutcome := runDescriptor (.ldRR .h .h) s

/-- `LD H,L` (R203). -/
def execLd_h_l (s : State) : StepOutcome := runDescriptor (.ldRR .h .l) s

/-- `LD H,(HL)` (R204). -/
def execLd_h_mhl (s : State) : StepOutcome := runDescriptor (.ldHL .h) s

/-- `LD H,A` (R203). -/
def execLd_h_a (s : State) : StepOutcome := runDescriptor (.ldRR .h .a) s

/-- `LD L,B` (R203). -/
def execLd_l_b (s : State) : StepOutcome := runDescriptor (.ldRR .l .b) s

/-- `LD L,C` (R203). -/
def execLd_l_c (s : State) : StepOutcome := runDescriptor (.ldRR .l .c) s

/-- `LD L,D` (R203). -/
def execLd_l_d (s : State) : StepOutcome := runDescriptor (.ldRR .l .d) s

/-- `LD L,E` (R203). -/
def execLd_l_e (s : State) : StepOutcome := runDescriptor (.ldRR .l .e) s

/-- `LD L,H` (R203). -/
def execLd_l_h (s : State) : StepOutcome := runDescriptor (.ldRR .l .h) s

/-- `LD L,L` (R203). -/
def execLd_l_l (s : State) : StepOutcome := runDescriptor (.ldRR .l .l) s

/-- `LD L,(HL)` (R204). -/
def execLd_l_mhl (s : State) : StepOutcome := runDescriptor (.ldHL .l) s

/-- `LD L,A` (R203). -/
def execLd_l_a (s : State) : StepOutcome := runDescriptor (.ldRR .l .a) s

/-- `LD (HL),B` (R205). -/
def execLd_mhl_b (s : State) : StepOutcome := runDescriptor (.stHL .b) s

/-- `LD (HL),C` (R205). -/
def execLd_mhl_c (s : State) : StepOutcome := runDescriptor (.stHL .c) s

/-- `LD (HL),D` (R205). -/
def execLd_mhl_d (s : State) : StepOutcome := runDescriptor (.stHL .d) s

/-- `LD (HL),E` (R205). -/
def execLd_mhl_e (s : State) : StepOutcome := runDescriptor (.stHL .e) s

/-- `LD (HL),H` (R205). -/
def execLd_mhl_h (s : State) : StepOutcome := runDescriptor (.stHL .h) s

/-- `LD (HL),L` (R205). -/
def execLd_mhl_l (s : State) : StepOutcome := runDescriptor (.stHL .l) s

/-- `LD (HL),A` (R205). -/
def execLd_mhl_a (s : State) : StepOutcome := runDescriptor (.stHL .a) s

/-- `LD A,B` (R203). -/
def execLd_a_b (s : State) : StepOutcome := runDescriptor (.ldRR .a .b) s

/-- `LD A,C` (R203). -/
def execLd_a_c (s : State) : StepOutcome := runDescriptor (.ldRR .a .c) s

/-- `LD A,D` (R203). -/
def execLd_a_d (s : State) : StepOutcome := runDescriptor (.ldRR .a .d) s

/-- `LD A,E` (R203). -/
def execLd_a_e (s : State) : StepOutcome := runDescriptor (.ldRR .a .e) s

/-- `LD A,H` (R203). -/
def execLd_a_h (s : State) : StepOutcome := runDescriptor (.ldRR .a .h) s

/-- `LD A,L` (R203). -/
def execLd_a_l (s : State) : StepOutcome := runDescriptor (.ldRR .a .l) s

/-- `LD A,(HL)` (R204). -/
def execLd_a_mhl (s : State) : StepOutcome := runDescriptor (.ldHL .a) s

/-- `LD A,A` (R203). -/
def execLd_a_a (s : State) : StepOutcome := runDescriptor (.ldRR .a .a) s

end Sys2Proof.Machine
end

