-- ==== Sys2Proof/Machine/RotateShift.lean ====
section
/-! DEFINITION. The rotate, shift and swap instructions (spec/43_rotate_shift.md): one meaning per table row, the run of its descriptor's plan from
its boundary to the next. The plans are in Machine/Plans.lean, the micro-operations in Machine/Effects.lean. -/

namespace Sys2Proof.Machine

/-- `RLCA` (R260). -/
def execRlca (s : State) : StepOutcome := runDescriptor (.rotA .rlca) s

/-- `RRCA` (R261). -/
def execRrca (s : State) : StepOutcome := runDescriptor (.rotA .rrca) s

/-- `RLA` (R262). -/
def execRla (s : State) : StepOutcome := runDescriptor (.rotA .rla) s

/-- `RRA` (R263). -/
def execRra (s : State) : StepOutcome := runDescriptor (.rotA .rra) s

/-- `RLC B` (R265). -/
def execRlc_b (s : State) : StepOutcome := runDescriptor (.cbR .rlc .b) s

/-- `RLC C` (R265). -/
def execRlc_c (s : State) : StepOutcome := runDescriptor (.cbR .rlc .c) s

/-- `RLC D` (R265). -/
def execRlc_d (s : State) : StepOutcome := runDescriptor (.cbR .rlc .d) s

/-- `RLC E` (R265). -/
def execRlc_e (s : State) : StepOutcome := runDescriptor (.cbR .rlc .e) s

/-- `RLC H` (R265). -/
def execRlc_h (s : State) : StepOutcome := runDescriptor (.cbR .rlc .h) s

/-- `RLC L` (R265). -/
def execRlc_l (s : State) : StepOutcome := runDescriptor (.cbR .rlc .l) s

/-- `RLC (HL)` (R266). -/
def execRlc_mhl (s : State) : StepOutcome := runDescriptor (.cbHL .rlc) s

/-- `RLC A` (R265). -/
def execRlc_a (s : State) : StepOutcome := runDescriptor (.cbR .rlc .a) s

/-- `RRC B` (R267). -/
def execRrc_b (s : State) : StepOutcome := runDescriptor (.cbR .rrc .b) s

/-- `RRC C` (R267). -/
def execRrc_c (s : State) : StepOutcome := runDescriptor (.cbR .rrc .c) s

/-- `RRC D` (R267). -/
def execRrc_d (s : State) : StepOutcome := runDescriptor (.cbR .rrc .d) s

/-- `RRC E` (R267). -/
def execRrc_e (s : State) : StepOutcome := runDescriptor (.cbR .rrc .e) s

/-- `RRC H` (R267). -/
def execRrc_h (s : State) : StepOutcome := runDescriptor (.cbR .rrc .h) s

/-- `RRC L` (R267). -/
def execRrc_l (s : State) : StepOutcome := runDescriptor (.cbR .rrc .l) s

/-- `RRC (HL)` (R268). -/
def execRrc_mhl (s : State) : StepOutcome := runDescriptor (.cbHL .rrc) s

/-- `RRC A` (R267). -/
def execRrc_a (s : State) : StepOutcome := runDescriptor (.cbR .rrc .a) s

/-- `RL B` (R269). -/
def execRl_b (s : State) : StepOutcome := runDescriptor (.cbR .rl .b) s

/-- `RL C` (R269). -/
def execRl_c (s : State) : StepOutcome := runDescriptor (.cbR .rl .c) s

/-- `RL D` (R269). -/
def execRl_d (s : State) : StepOutcome := runDescriptor (.cbR .rl .d) s

/-- `RL E` (R269). -/
def execRl_e (s : State) : StepOutcome := runDescriptor (.cbR .rl .e) s

/-- `RL H` (R269). -/
def execRl_h (s : State) : StepOutcome := runDescriptor (.cbR .rl .h) s

/-- `RL L` (R269). -/
def execRl_l (s : State) : StepOutcome := runDescriptor (.cbR .rl .l) s

/-- `RL (HL)` (R270). -/
def execRl_mhl (s : State) : StepOutcome := runDescriptor (.cbHL .rl) s

/-- `RL A` (R269). -/
def execRl_a (s : State) : StepOutcome := runDescriptor (.cbR .rl .a) s

/-- `RR B` (R271). -/
def execRr_b (s : State) : StepOutcome := runDescriptor (.cbR .rr .b) s

/-- `RR C` (R271). -/
def execRr_c (s : State) : StepOutcome := runDescriptor (.cbR .rr .c) s

/-- `RR D` (R271). -/
def execRr_d (s : State) : StepOutcome := runDescriptor (.cbR .rr .d) s

/-- `RR E` (R271). -/
def execRr_e (s : State) : StepOutcome := runDescriptor (.cbR .rr .e) s

/-- `RR H` (R271). -/
def execRr_h (s : State) : StepOutcome := runDescriptor (.cbR .rr .h) s

/-- `RR L` (R271). -/
def execRr_l (s : State) : StepOutcome := runDescriptor (.cbR .rr .l) s

/-- `RR (HL)` (R272). -/
def execRr_mhl (s : State) : StepOutcome := runDescriptor (.cbHL .rr) s

/-- `RR A` (R271). -/
def execRr_a (s : State) : StepOutcome := runDescriptor (.cbR .rr .a) s

/-- `SLA B` (R273). -/
def execSla_b (s : State) : StepOutcome := runDescriptor (.cbR .sla .b) s

/-- `SLA C` (R273). -/
def execSla_c (s : State) : StepOutcome := runDescriptor (.cbR .sla .c) s

/-- `SLA D` (R273). -/
def execSla_d (s : State) : StepOutcome := runDescriptor (.cbR .sla .d) s

/-- `SLA E` (R273). -/
def execSla_e (s : State) : StepOutcome := runDescriptor (.cbR .sla .e) s

/-- `SLA H` (R273). -/
def execSla_h (s : State) : StepOutcome := runDescriptor (.cbR .sla .h) s

/-- `SLA L` (R273). -/
def execSla_l (s : State) : StepOutcome := runDescriptor (.cbR .sla .l) s

/-- `SLA (HL)` (R274). -/
def execSla_mhl (s : State) : StepOutcome := runDescriptor (.cbHL .sla) s

/-- `SLA A` (R273). -/
def execSla_a (s : State) : StepOutcome := runDescriptor (.cbR .sla .a) s

/-- `SRA B` (R275). -/
def execSra_b (s : State) : StepOutcome := runDescriptor (.cbR .sra .b) s

/-- `SRA C` (R275). -/
def execSra_c (s : State) : StepOutcome := runDescriptor (.cbR .sra .c) s

/-- `SRA D` (R275). -/
def execSra_d (s : State) : StepOutcome := runDescriptor (.cbR .sra .d) s

/-- `SRA E` (R275). -/
def execSra_e (s : State) : StepOutcome := runDescriptor (.cbR .sra .e) s

/-- `SRA H` (R275). -/
def execSra_h (s : State) : StepOutcome := runDescriptor (.cbR .sra .h) s

/-- `SRA L` (R275). -/
def execSra_l (s : State) : StepOutcome := runDescriptor (.cbR .sra .l) s

/-- `SRA (HL)` (R276). -/
def execSra_mhl (s : State) : StepOutcome := runDescriptor (.cbHL .sra) s

/-- `SRA A` (R275). -/
def execSra_a (s : State) : StepOutcome := runDescriptor (.cbR .sra .a) s

/-- `SWAP B` (R277). -/
def execSwap_b (s : State) : StepOutcome := runDescriptor (.cbR .swap .b) s

/-- `SWAP C` (R277). -/
def execSwap_c (s : State) : StepOutcome := runDescriptor (.cbR .swap .c) s

/-- `SWAP D` (R277). -/
def execSwap_d (s : State) : StepOutcome := runDescriptor (.cbR .swap .d) s

/-- `SWAP E` (R277). -/
def execSwap_e (s : State) : StepOutcome := runDescriptor (.cbR .swap .e) s

/-- `SWAP H` (R277). -/
def execSwap_h (s : State) : StepOutcome := runDescriptor (.cbR .swap .h) s

/-- `SWAP L` (R277). -/
def execSwap_l (s : State) : StepOutcome := runDescriptor (.cbR .swap .l) s

/-- `SWAP (HL)` (R278). -/
def execSwap_mhl (s : State) : StepOutcome := runDescriptor (.cbHL .swap) s

/-- `SWAP A` (R277). -/
def execSwap_a (s : State) : StepOutcome := runDescriptor (.cbR .swap .a) s

/-- `SRL B` (R279). -/
def execSrl_b (s : State) : StepOutcome := runDescriptor (.cbR .srl .b) s

/-- `SRL C` (R279). -/
def execSrl_c (s : State) : StepOutcome := runDescriptor (.cbR .srl .c) s

/-- `SRL D` (R279). -/
def execSrl_d (s : State) : StepOutcome := runDescriptor (.cbR .srl .d) s

/-- `SRL E` (R279). -/
def execSrl_e (s : State) : StepOutcome := runDescriptor (.cbR .srl .e) s

/-- `SRL H` (R279). -/
def execSrl_h (s : State) : StepOutcome := runDescriptor (.cbR .srl .h) s

/-- `SRL L` (R279). -/
def execSrl_l (s : State) : StepOutcome := runDescriptor (.cbR .srl .l) s

/-- `SRL (HL)` (R280). -/
def execSrl_mhl (s : State) : StepOutcome := runDescriptor (.cbHL .srl) s

/-- `SRL A` (R279). -/
def execSrl_a (s : State) : StepOutcome := runDescriptor (.cbR .srl .a) s

end Sys2Proof.Machine
end

