-- ==== Sys2Proof/Machine/System.lean ====
section
/-! DEFINITION. `NOP`, the prefix and the display clear (spec/45_system.md): one meaning per table row, the run of its descriptor's plan from
its boundary to the next. The plans are in Machine/Plans.lean, the micro-operations in Machine/Effects.lean. -/

namespace Sys2Proof.Machine

/-- `NOP` (R310). -/
def execNop (s : State) : StepOutcome := runDescriptor (.nop) s

/-- `PREFIX` (R311). -/
def execPrefixCB (s : State) : StepOutcome := runDescriptor (.prefixCB) s

/-- `CLS` (R312). -/
def execCls (s : State) : StepOutcome := runDescriptor (.cls) s

end Sys2Proof.Machine
end

