-- ==== Sys2Proof/Machine/Dispatch.lean ====
section
/-! DEFINITION. The dispatch: one arm per row of spec/opcode_table.json. -/

namespace Sys2Proof.Machine

open Host

def exec (i : Instr) (s : State) : Host.Outcome State Fault Refusal :=
  match i with
  | .nop => Sys2Proof.Machine.execNop s
  | .ld_bc_d16 => Sys2Proof.Machine.execLd_bc_d16 s
  | .inc_bc => Sys2Proof.Machine.execInc_bc s
  | .inc_b => Sys2Proof.Machine.execInc_b s
  | .dec_b => Sys2Proof.Machine.execDec_b s
  | .ld_b_d8 => Sys2Proof.Machine.execLd_b_d8 s
  | .rlca => Sys2Proof.Machine.execRlca s
  | .dec_bc => Sys2Proof.Machine.execDec_bc s
  | .inc_c => Sys2Proof.Machine.execInc_c s
  | .dec_c => Sys2Proof.Machine.execDec_c s
  | .ld_c_d8 => Sys2Proof.Machine.execLd_c_d8 s
  | .rrca => Sys2Proof.Machine.execRrca s
  | .ld_de_d16 => Sys2Proof.Machine.execLd_de_d16 s
  | .inc_de => Sys2Proof.Machine.execInc_de s
  | .inc_d => Sys2Proof.Machine.execInc_d s
  | .dec_d => Sys2Proof.Machine.execDec_d s
  | .ld_d_d8 => Sys2Proof.Machine.execLd_d_d8 s
  | .rla => Sys2Proof.Machine.execRla s
  | .jr_e8 => Sys2Proof.Machine.execJr_e8 s
  | .dec_de => Sys2Proof.Machine.execDec_de s
  | .inc_e => Sys2Proof.Machine.execInc_e s
  | .dec_e => Sys2Proof.Machine.execDec_e s
  | .ld_e_d8 => Sys2Proof.Machine.execLd_e_d8 s
  | .rra => Sys2Proof.Machine.execRra s
  | .jr_nz_e8 => Sys2Proof.Machine.execJr_nz_e8 s
  | .ld_hl_d16 => Sys2Proof.Machine.execLd_hl_d16 s
  | .inc_hl => Sys2Proof.Machine.execInc_hl s
  | .inc_h => Sys2Proof.Machine.execInc_h s
  | .dec_h => Sys2Proof.Machine.execDec_h s
  | .ld_h_d8 => Sys2Proof.Machine.execLd_h_d8 s
  | .jr_z_e8 => Sys2Proof.Machine.execJr_z_e8 s
  | .dec_hl => Sys2Proof.Machine.execDec_hl s
  | .inc_l => Sys2Proof.Machine.execInc_l s
  | .dec_l => Sys2Proof.Machine.execDec_l s
  | .ld_l_d8 => Sys2Proof.Machine.execLd_l_d8 s
  | .jr_nc_e8 => Sys2Proof.Machine.execJr_nc_e8 s
  | .ld_sp_d16 => Sys2Proof.Machine.execLd_sp_d16 s
  | .inc_sp => Sys2Proof.Machine.execInc_sp s
  | .jr_c_e8 => Sys2Proof.Machine.execJr_c_e8 s
  | .dec_sp => Sys2Proof.Machine.execDec_sp s
  | .inc_a => Sys2Proof.Machine.execInc_a s
  | .dec_a => Sys2Proof.Machine.execDec_a s
  | .ld_a_d8 => Sys2Proof.Machine.execLd_a_d8 s
  | .ld_b_b => Sys2Proof.Machine.execLd_b_b s
  | .ld_b_c => Sys2Proof.Machine.execLd_b_c s
  | .ld_b_d => Sys2Proof.Machine.execLd_b_d s
  | .ld_b_e => Sys2Proof.Machine.execLd_b_e s
  | .ld_b_h => Sys2Proof.Machine.execLd_b_h s
  | .ld_b_l => Sys2Proof.Machine.execLd_b_l s
  | .ld_b_mhl => Sys2Proof.Machine.execLd_b_mhl s
  | .ld_b_a => Sys2Proof.Machine.execLd_b_a s
  | .ld_c_b => Sys2Proof.Machine.execLd_c_b s
  | .ld_c_c => Sys2Proof.Machine.execLd_c_c s
  | .ld_c_d => Sys2Proof.Machine.execLd_c_d s
  | .ld_c_e => Sys2Proof.Machine.execLd_c_e s
  | .ld_c_h => Sys2Proof.Machine.execLd_c_h s
  | .ld_c_l => Sys2Proof.Machine.execLd_c_l s
  | .ld_c_mhl => Sys2Proof.Machine.execLd_c_mhl s
  | .ld_c_a => Sys2Proof.Machine.execLd_c_a s
  | .ld_d_b => Sys2Proof.Machine.execLd_d_b s
  | .ld_d_c => Sys2Proof.Machine.execLd_d_c s
  | .ld_d_d => Sys2Proof.Machine.execLd_d_d s
  | .ld_d_e => Sys2Proof.Machine.execLd_d_e s
  | .ld_d_h => Sys2Proof.Machine.execLd_d_h s
  | .ld_d_l => Sys2Proof.Machine.execLd_d_l s
  | .ld_d_mhl => Sys2Proof.Machine.execLd_d_mhl s
  | .ld_d_a => Sys2Proof.Machine.execLd_d_a s
  | .ld_e_b => Sys2Proof.Machine.execLd_e_b s
  | .ld_e_c => Sys2Proof.Machine.execLd_e_c s
  | .ld_e_d => Sys2Proof.Machine.execLd_e_d s
  | .ld_e_e => Sys2Proof.Machine.execLd_e_e s
  | .ld_e_h => Sys2Proof.Machine.execLd_e_h s
  | .ld_e_l => Sys2Proof.Machine.execLd_e_l s
  | .ld_e_mhl => Sys2Proof.Machine.execLd_e_mhl s
  | .ld_e_a => Sys2Proof.Machine.execLd_e_a s
  | .ld_h_b => Sys2Proof.Machine.execLd_h_b s
  | .ld_h_c => Sys2Proof.Machine.execLd_h_c s
  | .ld_h_d => Sys2Proof.Machine.execLd_h_d s
  | .ld_h_e => Sys2Proof.Machine.execLd_h_e s
  | .ld_h_h => Sys2Proof.Machine.execLd_h_h s
  | .ld_h_l => Sys2Proof.Machine.execLd_h_l s
  | .ld_h_mhl => Sys2Proof.Machine.execLd_h_mhl s
  | .ld_h_a => Sys2Proof.Machine.execLd_h_a s
  | .ld_l_b => Sys2Proof.Machine.execLd_l_b s
  | .ld_l_c => Sys2Proof.Machine.execLd_l_c s
  | .ld_l_d => Sys2Proof.Machine.execLd_l_d s
  | .ld_l_e => Sys2Proof.Machine.execLd_l_e s
  | .ld_l_h => Sys2Proof.Machine.execLd_l_h s
  | .ld_l_l => Sys2Proof.Machine.execLd_l_l s
  | .ld_l_mhl => Sys2Proof.Machine.execLd_l_mhl s
  | .ld_l_a => Sys2Proof.Machine.execLd_l_a s
  | .ld_mhl_b => Sys2Proof.Machine.execLd_mhl_b s
  | .ld_mhl_c => Sys2Proof.Machine.execLd_mhl_c s
  | .ld_mhl_d => Sys2Proof.Machine.execLd_mhl_d s
  | .ld_mhl_e => Sys2Proof.Machine.execLd_mhl_e s
  | .ld_mhl_h => Sys2Proof.Machine.execLd_mhl_h s
  | .ld_mhl_l => Sys2Proof.Machine.execLd_mhl_l s
  | .ld_mhl_a => Sys2Proof.Machine.execLd_mhl_a s
  | .ld_a_b => Sys2Proof.Machine.execLd_a_b s
  | .ld_a_c => Sys2Proof.Machine.execLd_a_c s
  | .ld_a_d => Sys2Proof.Machine.execLd_a_d s
  | .ld_a_e => Sys2Proof.Machine.execLd_a_e s
  | .ld_a_h => Sys2Proof.Machine.execLd_a_h s
  | .ld_a_l => Sys2Proof.Machine.execLd_a_l s
  | .ld_a_mhl => Sys2Proof.Machine.execLd_a_mhl s
  | .ld_a_a => Sys2Proof.Machine.execLd_a_a s
  | .add_a_b => Sys2Proof.Machine.execAdd_a_b s
  | .add_a_c => Sys2Proof.Machine.execAdd_a_c s
  | .add_a_d => Sys2Proof.Machine.execAdd_a_d s
  | .add_a_e => Sys2Proof.Machine.execAdd_a_e s
  | .add_a_h => Sys2Proof.Machine.execAdd_a_h s
  | .add_a_l => Sys2Proof.Machine.execAdd_a_l s
  | .add_a_mhl => Sys2Proof.Machine.execAdd_a_mhl s
  | .add_a_a => Sys2Proof.Machine.execAdd_a_a s
  | .adc_a_b => Sys2Proof.Machine.execAdc_a_b s
  | .adc_a_c => Sys2Proof.Machine.execAdc_a_c s
  | .adc_a_d => Sys2Proof.Machine.execAdc_a_d s
  | .adc_a_e => Sys2Proof.Machine.execAdc_a_e s
  | .adc_a_h => Sys2Proof.Machine.execAdc_a_h s
  | .adc_a_l => Sys2Proof.Machine.execAdc_a_l s
  | .adc_a_mhl => Sys2Proof.Machine.execAdc_a_mhl s
  | .adc_a_a => Sys2Proof.Machine.execAdc_a_a s
  | .sub_a_b => Sys2Proof.Machine.execSub_a_b s
  | .sub_a_c => Sys2Proof.Machine.execSub_a_c s
  | .sub_a_d => Sys2Proof.Machine.execSub_a_d s
  | .sub_a_e => Sys2Proof.Machine.execSub_a_e s
  | .sub_a_h => Sys2Proof.Machine.execSub_a_h s
  | .sub_a_l => Sys2Proof.Machine.execSub_a_l s
  | .sub_a_mhl => Sys2Proof.Machine.execSub_a_mhl s
  | .sub_a_a => Sys2Proof.Machine.execSub_a_a s
  | .sbc_a_b => Sys2Proof.Machine.execSbc_a_b s
  | .sbc_a_c => Sys2Proof.Machine.execSbc_a_c s
  | .sbc_a_d => Sys2Proof.Machine.execSbc_a_d s
  | .sbc_a_e => Sys2Proof.Machine.execSbc_a_e s
  | .sbc_a_h => Sys2Proof.Machine.execSbc_a_h s
  | .sbc_a_l => Sys2Proof.Machine.execSbc_a_l s
  | .sbc_a_mhl => Sys2Proof.Machine.execSbc_a_mhl s
  | .sbc_a_a => Sys2Proof.Machine.execSbc_a_a s
  | .and_a_b => Sys2Proof.Machine.execAnd_a_b s
  | .and_a_c => Sys2Proof.Machine.execAnd_a_c s
  | .and_a_d => Sys2Proof.Machine.execAnd_a_d s
  | .and_a_e => Sys2Proof.Machine.execAnd_a_e s
  | .and_a_h => Sys2Proof.Machine.execAnd_a_h s
  | .and_a_l => Sys2Proof.Machine.execAnd_a_l s
  | .and_a_mhl => Sys2Proof.Machine.execAnd_a_mhl s
  | .and_a_a => Sys2Proof.Machine.execAnd_a_a s
  | .xor_a_b => Sys2Proof.Machine.execXor_a_b s
  | .xor_a_c => Sys2Proof.Machine.execXor_a_c s
  | .xor_a_d => Sys2Proof.Machine.execXor_a_d s
  | .xor_a_e => Sys2Proof.Machine.execXor_a_e s
  | .xor_a_h => Sys2Proof.Machine.execXor_a_h s
  | .xor_a_l => Sys2Proof.Machine.execXor_a_l s
  | .xor_a_mhl => Sys2Proof.Machine.execXor_a_mhl s
  | .xor_a_a => Sys2Proof.Machine.execXor_a_a s
  | .or_a_b => Sys2Proof.Machine.execOr_a_b s
  | .or_a_c => Sys2Proof.Machine.execOr_a_c s
  | .or_a_d => Sys2Proof.Machine.execOr_a_d s
  | .or_a_e => Sys2Proof.Machine.execOr_a_e s
  | .or_a_h => Sys2Proof.Machine.execOr_a_h s
  | .or_a_l => Sys2Proof.Machine.execOr_a_l s
  | .or_a_mhl => Sys2Proof.Machine.execOr_a_mhl s
  | .or_a_a => Sys2Proof.Machine.execOr_a_a s
  | .cp_a_b => Sys2Proof.Machine.execCp_a_b s
  | .cp_a_c => Sys2Proof.Machine.execCp_a_c s
  | .cp_a_d => Sys2Proof.Machine.execCp_a_d s
  | .cp_a_e => Sys2Proof.Machine.execCp_a_e s
  | .cp_a_h => Sys2Proof.Machine.execCp_a_h s
  | .cp_a_l => Sys2Proof.Machine.execCp_a_l s
  | .cp_a_mhl => Sys2Proof.Machine.execCp_a_mhl s
  | .cp_a_a => Sys2Proof.Machine.execCp_a_a s
  | .jp_a16 => Sys2Proof.Machine.execJp_a16 s
  | .add_a_d8 => Sys2Proof.Machine.execAdd_a_d8 s
  | .ret => Sys2Proof.Machine.execRet s
  | .prefixCB => Sys2Proof.Machine.execPrefixCB s
  | .call_a16 => Sys2Proof.Machine.execCall_a16 s
  | .adc_a_d8 => Sys2Proof.Machine.execAdc_a_d8 s
  | .cls => Sys2Proof.Machine.execCls s
  | .sub_a_d8 => Sys2Proof.Machine.execSub_a_d8 s
  | .sbc_a_d8 => Sys2Proof.Machine.execSbc_a_d8 s
  | .and_a_d8 => Sys2Proof.Machine.execAnd_a_d8 s
  | .xor_a_d8 => Sys2Proof.Machine.execXor_a_d8 s
  | .or_a_d8 => Sys2Proof.Machine.execOr_a_d8 s
  | .cp_a_d8 => Sys2Proof.Machine.execCp_a_d8 s
  | .rlc_b => Sys2Proof.Machine.execRlc_b s
  | .rlc_c => Sys2Proof.Machine.execRlc_c s
  | .rlc_d => Sys2Proof.Machine.execRlc_d s
  | .rlc_e => Sys2Proof.Machine.execRlc_e s
  | .rlc_h => Sys2Proof.Machine.execRlc_h s
  | .rlc_l => Sys2Proof.Machine.execRlc_l s
  | .rlc_mhl => Sys2Proof.Machine.execRlc_mhl s
  | .rlc_a => Sys2Proof.Machine.execRlc_a s
  | .rrc_b => Sys2Proof.Machine.execRrc_b s
  | .rrc_c => Sys2Proof.Machine.execRrc_c s
  | .rrc_d => Sys2Proof.Machine.execRrc_d s
  | .rrc_e => Sys2Proof.Machine.execRrc_e s
  | .rrc_h => Sys2Proof.Machine.execRrc_h s
  | .rrc_l => Sys2Proof.Machine.execRrc_l s
  | .rrc_mhl => Sys2Proof.Machine.execRrc_mhl s
  | .rrc_a => Sys2Proof.Machine.execRrc_a s
  | .rl_b => Sys2Proof.Machine.execRl_b s
  | .rl_c => Sys2Proof.Machine.execRl_c s
  | .rl_d => Sys2Proof.Machine.execRl_d s
  | .rl_e => Sys2Proof.Machine.execRl_e s
  | .rl_h => Sys2Proof.Machine.execRl_h s
  | .rl_l => Sys2Proof.Machine.execRl_l s
  | .rl_mhl => Sys2Proof.Machine.execRl_mhl s
  | .rl_a => Sys2Proof.Machine.execRl_a s
  | .rr_b => Sys2Proof.Machine.execRr_b s
  | .rr_c => Sys2Proof.Machine.execRr_c s
  | .rr_d => Sys2Proof.Machine.execRr_d s
  | .rr_e => Sys2Proof.Machine.execRr_e s
  | .rr_h => Sys2Proof.Machine.execRr_h s
  | .rr_l => Sys2Proof.Machine.execRr_l s
  | .rr_mhl => Sys2Proof.Machine.execRr_mhl s
  | .rr_a => Sys2Proof.Machine.execRr_a s
  | .sla_b => Sys2Proof.Machine.execSla_b s
  | .sla_c => Sys2Proof.Machine.execSla_c s
  | .sla_d => Sys2Proof.Machine.execSla_d s
  | .sla_e => Sys2Proof.Machine.execSla_e s
  | .sla_h => Sys2Proof.Machine.execSla_h s
  | .sla_l => Sys2Proof.Machine.execSla_l s
  | .sla_mhl => Sys2Proof.Machine.execSla_mhl s
  | .sla_a => Sys2Proof.Machine.execSla_a s
  | .sra_b => Sys2Proof.Machine.execSra_b s
  | .sra_c => Sys2Proof.Machine.execSra_c s
  | .sra_d => Sys2Proof.Machine.execSra_d s
  | .sra_e => Sys2Proof.Machine.execSra_e s
  | .sra_h => Sys2Proof.Machine.execSra_h s
  | .sra_l => Sys2Proof.Machine.execSra_l s
  | .sra_mhl => Sys2Proof.Machine.execSra_mhl s
  | .sra_a => Sys2Proof.Machine.execSra_a s
  | .swap_b => Sys2Proof.Machine.execSwap_b s
  | .swap_c => Sys2Proof.Machine.execSwap_c s
  | .swap_d => Sys2Proof.Machine.execSwap_d s
  | .swap_e => Sys2Proof.Machine.execSwap_e s
  | .swap_h => Sys2Proof.Machine.execSwap_h s
  | .swap_l => Sys2Proof.Machine.execSwap_l s
  | .swap_mhl => Sys2Proof.Machine.execSwap_mhl s
  | .swap_a => Sys2Proof.Machine.execSwap_a s
  | .srl_b => Sys2Proof.Machine.execSrl_b s
  | .srl_c => Sys2Proof.Machine.execSrl_c s
  | .srl_d => Sys2Proof.Machine.execSrl_d s
  | .srl_e => Sys2Proof.Machine.execSrl_e s
  | .srl_h => Sys2Proof.Machine.execSrl_h s
  | .srl_l => Sys2Proof.Machine.execSrl_l s
  | .srl_mhl => Sys2Proof.Machine.execSrl_mhl s
  | .srl_a => Sys2Proof.Machine.execSrl_a s

end Sys2Proof.Machine
end

