-- ==== Sys2Proof/Machine/Step.lean ====
section
/-! DEFINITION. The step of the machine, and the placing of a table word where the next step fetches. Both only call
Machine/Tick.lean. -/

namespace Sys2Proof.Machine

/-- One step: at a boundary one whole instruction, between boundaries one tick (Machine/Tick.lean `stepWith`). -/
def step (s : State) : Host.Outcome State Fault Refusal := stepWith exec s

/-- The state in which the very next step fetches and runs the instruction of a table word. -/
def State.withFetchWord (s : State) (nbits w : Nat) : State := placeTableWord s nbits w

end Sys2Proof.Machine
end

