-- ==== Sys2Proof/WellFormed.lean ====
section
/-! DEFINITION. What well-formed syntax is: micro-operations (spec/40_pipeline.md R152), handler plans (R169), lines of
an assembler (spec/30_encoding.md R114, R130), decode ROMs (R113) and parameters (spec/00_scope.md R7). A model
refuses a ROM that fails (spec/60_exceptions.md R335). -/

namespace Sys2Proof

/-- The width rule of R152: a `Transfer` is well-formed when both ends are 8 bits wide and not both memory bytes, or
both are 16-bit names. Effects have no widths to match. -/
def MicroOp.wellFormed : MicroOp → Bool
  | .transfer (.reg8 _) (.reg8 _) => true
  | .transfer (.reg8 _) (.mem _) => true
  | .transfer (.mem _) (.reg8 _) => true
  | .transfer (.reg16 _) (.reg16 _) => true
  | .transfer (.mem _) (.mem _) => false
  | .transfer (.reg8 _) (.reg16 _) => false
  | .transfer (.reg16 _) (.reg8 _) => false
  | .transfer (.reg16 _) (.mem _) => false
  | .transfer (.mem _) (.reg16 _) => false
  | .effect _ => true

/-- The handler contract of R169: a positive duration, every offset `k` with `1 ≤ k < dur` (which makes every
scheduling forward-only, R162), and every `Transfer` width-correct. -/
def Plan.wellFormed (pl : Plan) : Bool :=
  decide (1 ≤ pl.dur) &&
    pl.ops.all fun x => decide (1 ≤ x.1) && decide (x.1 < pl.dur) && x.2.wellFormed

/-- A line an assembler may write: the operand bytes its format takes (R114), and not the prefix on its own (R130). -/
def Line.wellFormed (l : Line) : Bool :=
  decide (l.instr ≠ .prefixCB) && decide (l.operands.length = l.instr.descriptor.operandBytes)

/-- The byte with the given number. -/
def allBytes : List Byte := (List.range 256).map (BitVec.ofNat 8)

/-- R113 (b), with R112: the prefix descriptor stands in the primary table at `PREFIX_BYTE` alone and nowhere in the
extended table. -/
def Rom.prefixUnique (rom : Rom) (prefixByte : Byte) : Bool :=
  allBytes.all fun b =>
    decide ((rom false b = some .prefixCB) ↔ (b = prefixByte)) && decide (rom true b ≠ some .prefixCB)

/-- R113 (c): every plan that the descriptors of the ROM yield, the branch taken or not, meets the handler contract.
`planFor` is the handlers' function (Machine/Plans.lean). -/
def Rom.plansWellFormed (planFor : Descriptor → Bool → Plan) (rom : Rom) : Bool :=
  [true, false].all fun ext => allBytes.all fun b =>
    match rom ext b with
    | none => true
    | some i => (planFor i.descriptor true).wellFormed && (planFor i.descriptor false).wellFormed

/-- The ranges of the parameter table (spec/00_scope.md R7). -/
def Params.inRange (p : Params) : Bool :=
  decide (1 ≤ p.memSize) && decide (p.memSize ≤ 0x10000) && decide (p.progEnd ≤ p.memSize) &&
    decide (1 ≤ p.callStackCapacity) && decide (p.resetPc.toNat < p.memSize)

end Sys2Proof
end

