-- ==== Sys2Proof/Machine/HostOps.lean ====
section
/-! DEFINITION. The host interface (spec/60_exceptions.md R340 to R346): every operation the host can perform between
two ticks, the ROM load (spec/20_memory.md R98) and the construction of a core. An operation's error goes to its
caller: it does not latch `FAULT` and does not touch the queue (R345). -/

namespace Sys2Proof.Machine

/-- The fixed-rate timers (spec/10_state.md R55). -/
inductive Timer where
  | dt | st
  deriving DecidableEq, Repr

/-- The host's complete set of operations (R345). Arguments have the width of what they are written to, so a value the
table does not admit cannot be given (assumption log 11). -/
inductive HostOp where
  | tick
  | reset
  | resume
  | loadRom (bytes : List Byte) (base : Int)
  | get8 (n : Reg8)
  | get16 (n : Reg16)
  | set8 (n : Reg8) (v : Byte)
  | set16 (n : Reg16) (v : Word)
  | read (a : Int)
  | write (a : Int) (v : Byte)
  | callStack
  | getTimer (t : Timer)
  | setTimer (t : Timer) (v : BitVec timerWidth)
  | timerTick
  | soundOn
  | setKeys (m : BitVec keyCount)
  | getKeys
  | readFb (row : Fin fbRows) (col : Fin fbCols)
  | tickCount
  | fault
  deriving DecidableEq, Repr

/-- What an operation returns to its caller (the result column of R345). -/
inductive Reply where
  | none
  | ok
  | err (e : CoreError)
  | byte (v : Byte)
  | word (v : Word)
  | stack (entries : List Word) (depth : Nat)
  | timer (v : BitVec timerWidth)
  | flag (b : Bool)
  | keys (m : BitVec keyCount)
  | count (n : Nat)
  | latched (e : Option CoreError)
  deriving DecidableEq, Repr

/-- The state after an operation, and its reply. -/
structure HostResult where
  state : State
  reply : Reply
  deriving DecidableEq, Repr

/-- The outcome of a host operation. -/
abbrev HostOutcome := Host.Outcome HostResult Fault Refusal

/-- What `tick()` returns (spec/40_pipeline.md R165): the error that is latched after it, if any. -/
def tickReply (s : State) : Reply :=
  match s.fault with
  | none => .ok
  | some e => .err e

/-- `timer_tick()` (R340): the timer domain's counter advances; each timer that is not 0 counts down. -/
def timerTick (s : State) : State :=
  { s with
    timerTicks := s.timerTicks + 1
    dt := if s.dt = 0 then 0 else s.dt - 1
    st := if s.st = 0 then 0 else s.st - 1 }

/-- `sound_on` (R341): a function of the state. -/
def soundOn (s : State) : Bool := decide (s.st ≠ 0)

/-- Read a timer register. -/
def readTimer (t : Timer) (s : State) : BitVec timerWidth :=
  match t with
  | .dt => s.dt
  | .st => s.st

/-- Write a timer register. -/
def writeTimer (t : Timer) (v : BitVec timerWidth) (s : State) : State :=
  match t with
  | .dt => { s with dt := v }
  | .st => { s with st := v }

/-- A pixel of the framebuffer (R344). -/
def pixel (s : State) (row : Fin fbRows) (col : Fin fbCols) : Bool := (s.fb[row])[col]

/-- An operation of the host that may return an error, as its result (R345). -/
def hostReturn : OpResult → HostOutcome
  | .done s => .next { state := s, reply := .ok }
  | .raised e s => .next { state := s, reply := .err e }
  | .refused r => .refused r

/-- The address `load_rom` reports for a sequence that does not fit (spec/20_memory.md R98): the first address of the
sequence outside the program region; of an empty sequence, a free value (assumption log 9). -/
def firstOutside (p : Params) (bytes : List Byte) (base : Int) : Int :=
  if bytes.isEmpty then Config.emptyLoadAddress base
  else if base < 0 then base
  else if base < p.progEnd then p.progEnd
  else base

/-- `load_rom(bytes, base)` (R98): refused after the first tick, an error with nothing copied when the sequence does not
lie in the program region, else the bytes are stored. -/
def loadRom (p : Params) (bytes : List Byte) (base : Int) (s : State) : HostOutcome :=
  if s.tickCount ≠ 0 ∨ s.seeded = true then .refused .romLoadAfterFirstTick
  else if base < 0 ∨ (p.progEnd : Int) < base + bytes.length then
    .next { state := s, reply := .err (.outOfRangeAccess (firstOutside p bytes base)) }
  else .next { state := { s with mem := s.mem.writeBytes base.toNat bytes }, reply := .ok }

/-- One host operation (R345). -/
def hostStep (p : Params) (op : HostOp) (s : State) : HostOutcome :=
  match op with
  | .tick =>
    match tick p s with
    | .next s' => .next { state := s', reply := tickReply s' }
    | .fault r => .fault r
    | .refused r => .refused r
  | .reset => .next { state := resetCore p s, reply := .none }
  | .resume => .next { state := Machine.resume s, reply := .none }
  | .loadRom bytes base => loadRom p bytes base s
  | .get8 n => .next { state := s, reply := .byte (readReg8 n s) }
  | .get16 n => .next { state := s, reply := .word (readReg16 n s) }
  | .set8 n v => .next { state := writeReg8 n v s, reply := .ok }
  | .set16 n v => hostReturn (writeReg16 p n v s)
  | .read a =>
    match memRead p a s with
    | .ok v => .next { state := s, reply := .byte v }
    | .error e => .next { state := s, reply := .err e }
  | .write a v => hostReturn (memWrite p a v s)
  | .callStack => .next { state := s, reply := .stack s.callStack s.callStack.length }
  | .getTimer t => .next { state := s, reply := .timer (readTimer t s) }
  | .setTimer t v => .next { state := writeTimer t v s, reply := .none }
  | .timerTick => .next { state := timerTick s, reply := .none }
  | .soundOn => .next { state := s, reply := .flag (soundOn s) }
  | .setKeys m => .next { state := { s with keys := m }, reply := .none }
  | .getKeys => .next { state := s, reply := .keys s.keys }
  | .readFb row col => .next { state := s, reply := .flag (pixel s row col) }
  | .tickCount => .next { state := s, reply := .count s.tickCount }
  | .fault => .next { state := s, reply := .latched s.fault }

/-- A run of the core under its host (R346): the operations one after another, with their replies. -/
def hostRun (p : Params) : List HostOp → State → Host.Outcome (State × List Reply) Fault Refusal
  | [], s => .next (s, [])
  | op :: ops, s =>
    match hostStep p op s with
    | .next r =>
      match hostRun p ops r.state with
      | .next (s', replies) => .next (s', r.reply :: replies)
      | .fault e => .fault e
      | .refused e => .refused e
    | .fault e => .fault e
    | .refused e => .refused e

/-- Every condition a core is constructed under: the parameter ranges (spec/00_scope.md R7) and the well-formedness of
its decode ROM (spec/30_encoding.md R113). -/
def romWellFormed (p : Params) : Bool := Rom.prefixUnique p.rom p.prefixByte && Rom.plansWellFormed planFor p.rom

/-- The construction of a core (spec/70_reset_and_hazards.md R372): its power-on state, or the refusal of a parameter or
a decode ROM that breaks its rule (spec/60_exceptions.md R335). -/
def construct (p : Params) : StepOutcome :=
  if p.inRange then
    if romWellFormed p then .next (State.powerOn p) else .refused .illFormedRom
  else .refused .parameterOutOfRange

end Sys2Proof.Machine
end

