-- ==== Sys2Proof/Machine/Launch.lean ====
section
/-! DEFINITION. Runs from the construction of a core: under its host (spec/60_exceptions.md R346), and a launch with its
three ends (spec/70_reset_and_hazards.md R386). A parameter or a decode ROM that breaks its rule is refused before anything
runs, and the run is marked refused (spec/30_encoding.md R113, spec/60_exceptions.md R335). -/

namespace Sys2Proof.Machine

/-- A run of a core under its host from its construction: what `construct` refuses is a refused run. -/
def runFromConstruction (p : Params) (ops : List HostOp) : Host.Outcome (State × List Reply) Fault Refusal :=
  match construct p with
  | .next s => hostRun p ops s
  | .fault r => .fault r
  | .refused r => .refused r

/-- How a run of ticks ends (R386). -/
inductive RunEnd where
  | faultEnd (e : CoreError)
  | idleEnd
  | budgetEnd
  deriving DecidableEq, Repr

/-- What a launch gives: the end of its run with the end state, or the error of a load that does not fit, after which
nothing runs. -/
inductive Launched where
  | ended (e : RunEnd) (s : State)
  | loadFailed (e : CoreError)
  deriving DecidableEq, Repr

/-- The boundary that would fetch the idle loop `18 FE` from the primary table is all that is pending, due at this tick
(R386, end 2). -/
def State.idleLoop (p : Params) (s : State) : Bool :=
  decide (s.fault = none) && s.seeded && decide (s.queue = [(s.tickCount, .effect .fde)]) && !s.ext &&
    decide (s.pc.toNat + 1 < p.memSize) && decide (s.mem.read s.pc.toNat = 0x18) &&
    decide (s.mem.read (s.pc.toNat + 1) = 0xFE)

/-- At most `n` ticks, to the first of the three ends (R386), with the end state. -/
def runToEnd (p : Params) : Nat → State → Host.Outcome (RunEnd × State) Fault Refusal
  | n, s =>
    if s.idleLoop p then .next (.idleEnd, s)
    else
      match n with
      | 0 => .next (.budgetEnd, s)
      | n + 1 =>
        match tick p s with
        | .next s' =>
          match s'.fault with
          | some e => .next (.faultEnd e, s')
          | none => runToEnd p n s'
        | .fault r => .fault r
        | .refused r => .refused r

/-- The run of a launch after its load, given what the load returned (spec/20_memory.md R98). -/
def runLoaded (p : Params) (n : Nat) (r : HostResult) : Host.Outcome Launched Fault Refusal :=
  match r.reply with
  | .err e => .next (.loadFailed e)
  | _ =>
    match runToEnd p n r.state with
    | .next (e, s) => .next (.ended e s)
    | .fault f => .fault f
    | .refused f => .refused f

/-- A launch `(image, base, N)` (R386): a core is constructed, the image is loaded into it, and it runs for a budget of
`N` ticks. What construction or the load refuses is a refused run (spec/60_exceptions.md R335). -/
def launch (p : Params) (image : List Byte) (base : Int) (n : Nat) : Host.Outcome Launched Fault Refusal :=
  match construct p with
  | .next s =>
    match loadRom p image base s with
    | .next r => runLoaded p n r
    | .fault r => .fault r
    | .refused r => .refused r
  | .fault r => .fault r
  | .refused r => .refused r

end Sys2Proof.Machine
end

