-- ==== Sys2Proof/Safety.lean ====
section
/-! DEFINITION. The terms claims are made in: the invariant of every reachable state. -/

namespace Sys2Proof.Machine

/-- The queue of a core that is neither faulted nor waiting for its first tick (spec/40_pipeline.md R174, R177): the
remaining micro-operations of the instruction in progress, in tick order and width-correct, and then exactly one
boundary, later than all of them. -/
structure RunningQueue (now : Nat) (q : Queue) : Prop where
  shape : ∃ (pending : Queue) (t : Nat), q = pending ++ [(t, .effect .fde)] ∧ now ≤ t ∧ t ≤ now + 24 ∧
    (∀ x ∈ pending, now ≤ x.1 ∧ x.1 < t ∧ x.2 ≠ .effect .fde ∧ x.2.wellFormed = true) ∧
    pending.Pairwise fun x y => x.1 ≤ y.1

/-- The invariant of the core with parameters `p`: what every state it can reach satisfies. -/
structure Inv (p : Params) (s : State) : Prop where
  /-- Memory is in canonical form. -/
  memCanonical : s.mem.wf = true
  /-- Memory lists only addresses of the address space (spec/20_memory.md R80). -/
  memInRange : ∀ x ∈ s.mem, x.1 < p.memSize
  /-- The low four bits of `F` are 0 (spec/10_state.md R39). -/
  flagsLow : s.f &&& 0x0F = 0
  /-- `PC` is within the addressable range (R44). -/
  pcInRange : s.pc.toNat < p.memSize
  /-- `SP` is within the addressable range (R44). -/
  spInRange : s.sp.toNat < p.memSize
  /-- The depth of the call stack does not exceed its capacity (R51). -/
  stackBound : s.callStack.length ≤ p.callStackCapacity
  /-- Every return address is an address (spec/44_control.md R297). -/
  stackAddresses : ∀ a ∈ s.callStack, a.toNat < p.memSize
  /-- A faulted core has an empty queue (spec/60_exceptions.md R326). -/
  faultedIdle : s.fault ≠ none → s.queue = []
  /-- Before its first tick a core has an empty queue (spec/40_pipeline.md R177). -/
  unseededIdle : s.seeded = false → s.queue = []
  /-- While it runs, the queue holds the instruction in progress and one boundary (R177). -/
  running : s.fault = none → s.seeded = true → RunningQueue s.tickCount s.queue

end Sys2Proof.Machine
end

