-- ==== Sys2Proof/Safety/Forms.lean ====
section
/-! DEFINITION. The terms of the claims about instructions: the table rows of each shape, listed one by one; the state at
the next boundary and after an error; and the rules of spec/42_arith.md and spec/43_rotate_shift.md for results and
flags, written as relations over numbers from the spec's text. Nothing here is used by the machine. -/

namespace Sys2Proof.Machine

/-! ### The rows of each shape -/

/-- `LD rr,d16`. -/
def Forms.ld16 : Pair → Instr
  | .bc => .ld_bc_d16 | .de => .ld_de_d16 | .hl => .ld_hl_d16

/-- `LD r,d8`. -/
def Forms.ld8I : GReg → Instr
  | .b => .ld_b_d8 | .c => .ld_c_d8 | .d => .ld_d_d8 | .e => .ld_e_d8 | .h => .ld_h_d8 | .l => .ld_l_d8
  | .a => .ld_a_d8

/-- `LD r,r'`, the destination first. -/
def Forms.ldRR : GReg → GReg → Instr
  | .b, .b => .ld_b_b | .b, .c => .ld_b_c | .b, .d => .ld_b_d | .b, .e => .ld_b_e | .b, .h => .ld_b_h
  | .b, .l => .ld_b_l | .b, .a => .ld_b_a | .c, .b => .ld_c_b | .c, .c => .ld_c_c | .c, .d => .ld_c_d
  | .c, .e => .ld_c_e | .c, .h => .ld_c_h | .c, .l => .ld_c_l | .c, .a => .ld_c_a | .d, .b => .ld_d_b
  | .d, .c => .ld_d_c | .d, .d => .ld_d_d | .d, .e => .ld_d_e | .d, .h => .ld_d_h | .d, .l => .ld_d_l
  | .d, .a => .ld_d_a | .e, .b => .ld_e_b | .e, .c => .ld_e_c | .e, .d => .ld_e_d | .e, .e => .ld_e_e
  | .e, .h => .ld_e_h | .e, .l => .ld_e_l | .e, .a => .ld_e_a | .h, .b => .ld_h_b | .h, .c => .ld_h_c
  | .h, .d => .ld_h_d | .h, .e => .ld_h_e | .h, .h => .ld_h_h | .h, .l => .ld_h_l | .h, .a => .ld_h_a
  | .l, .b => .ld_l_b | .l, .c => .ld_l_c | .l, .d => .ld_l_d | .l, .e => .ld_l_e | .l, .h => .ld_l_h
  | .l, .l => .ld_l_l | .l, .a => .ld_l_a | .a, .b => .ld_a_b | .a, .c => .ld_a_c | .a, .d => .ld_a_d
  | .a, .e => .ld_a_e | .a, .h => .ld_a_h | .a, .l => .ld_a_l | .a, .a => .ld_a_a

/-- `LD r,(HL)`. -/
def Forms.ldHL : GReg → Instr
  | .b => .ld_b_mhl | .c => .ld_c_mhl | .d => .ld_d_mhl | .e => .ld_e_mhl | .h => .ld_h_mhl | .l => .ld_l_mhl
  | .a => .ld_a_mhl

/-- `LD (HL),r`. -/
def Forms.stHL : GReg → Instr
  | .b => .ld_mhl_b | .c => .ld_mhl_c | .d => .ld_mhl_d | .e => .ld_mhl_e | .h => .ld_mhl_h | .l => .ld_mhl_l
  | .a => .ld_mhl_a

/-- `INC r`. -/
def Forms.inc8 : GReg → Instr
  | .b => .inc_b | .c => .inc_c | .d => .inc_d | .e => .inc_e | .h => .inc_h | .l => .inc_l | .a => .inc_a

/-- `DEC r`. -/
def Forms.dec8 : GReg → Instr
  | .b => .dec_b | .c => .dec_c | .d => .dec_d | .e => .dec_e | .h => .dec_h | .l => .dec_l | .a => .dec_a

/-- `INC rr`. -/
def Forms.inc16 : Rp → Instr
  | .bc => .inc_bc | .de => .inc_de | .hl => .inc_hl | .sp => .inc_sp

/-- `DEC rr`. -/
def Forms.dec16 : Rp → Instr
  | .bc => .dec_bc | .de => .dec_de | .hl => .dec_hl | .sp => .dec_sp

/-- `ALU A,r`. -/
def Forms.aluR : AluOp → GReg → Instr
  | .add, .b => .add_a_b | .add, .c => .add_a_c | .add, .d => .add_a_d | .add, .e => .add_a_e
  | .add, .h => .add_a_h | .add, .l => .add_a_l | .add, .a => .add_a_a | .adc, .b => .adc_a_b
  | .adc, .c => .adc_a_c | .adc, .d => .adc_a_d | .adc, .e => .adc_a_e | .adc, .h => .adc_a_h
  | .adc, .l => .adc_a_l | .adc, .a => .adc_a_a | .sub, .b => .sub_a_b | .sub, .c => .sub_a_c
  | .sub, .d => .sub_a_d | .sub, .e => .sub_a_e | .sub, .h => .sub_a_h | .sub, .l => .sub_a_l
  | .sub, .a => .sub_a_a | .sbc, .b => .sbc_a_b | .sbc, .c => .sbc_a_c | .sbc, .d => .sbc_a_d
  | .sbc, .e => .sbc_a_e | .sbc, .h => .sbc_a_h | .sbc, .l => .sbc_a_l | .sbc, .a => .sbc_a_a
  | .and, .b => .and_a_b | .and, .c => .and_a_c | .and, .d => .and_a_d | .and, .e => .and_a_e
  | .and, .h => .and_a_h | .and, .l => .and_a_l | .and, .a => .and_a_a | .xor, .b => .xor_a_b
  | .xor, .c => .xor_a_c | .xor, .d => .xor_a_d | .xor, .e => .xor_a_e | .xor, .h => .xor_a_h
  | .xor, .l => .xor_a_l | .xor, .a => .xor_a_a | .or, .b => .or_a_b | .or, .c => .or_a_c
  | .or, .d => .or_a_d | .or, .e => .or_a_e | .or, .h => .or_a_h | .or, .l => .or_a_l | .or, .a => .or_a_a
  | .cp, .b => .cp_a_b | .cp, .c => .cp_a_c | .cp, .d => .cp_a_d | .cp, .e => .cp_a_e | .cp, .h => .cp_a_h
  | .cp, .l => .cp_a_l | .cp, .a => .cp_a_a

/-- `ALU A,(HL)`. -/
def Forms.aluHL : AluOp → Instr
  | .add => .add_a_mhl | .adc => .adc_a_mhl | .sub => .sub_a_mhl | .sbc => .sbc_a_mhl | .and => .and_a_mhl
  | .xor => .xor_a_mhl | .or => .or_a_mhl | .cp => .cp_a_mhl

/-- `ALU A,d8`. -/
def Forms.aluI : AluOp → Instr
  | .add => .add_a_d8 | .adc => .adc_a_d8 | .sub => .sub_a_d8 | .sbc => .sbc_a_d8 | .and => .and_a_d8
  | .xor => .xor_a_d8 | .or => .or_a_d8 | .cp => .cp_a_d8

/-- The accumulator rotates. -/
def Forms.rotA : RotAOp → Instr
  | .rlca => .rlca | .rrca => .rrca | .rla => .rla | .rra => .rra

/-- `JR cc,e8`. -/
def Forms.jrCC : Cc → Instr
  | .nz => .jr_nz_e8 | .z => .jr_z_e8 | .nc => .jr_nc_e8 | .c => .jr_c_e8

/-- The extended `op r`. -/
def Forms.cbR : CbOp → GReg → Instr
  | .rlc, .b => .rlc_b | .rlc, .c => .rlc_c | .rlc, .d => .rlc_d | .rlc, .e => .rlc_e | .rlc, .h => .rlc_h
  | .rlc, .l => .rlc_l | .rlc, .a => .rlc_a | .rrc, .b => .rrc_b | .rrc, .c => .rrc_c | .rrc, .d => .rrc_d
  | .rrc, .e => .rrc_e | .rrc, .h => .rrc_h | .rrc, .l => .rrc_l | .rrc, .a => .rrc_a | .rl, .b => .rl_b
  | .rl, .c => .rl_c | .rl, .d => .rl_d | .rl, .e => .rl_e | .rl, .h => .rl_h | .rl, .l => .rl_l
  | .rl, .a => .rl_a | .rr, .b => .rr_b | .rr, .c => .rr_c | .rr, .d => .rr_d | .rr, .e => .rr_e
  | .rr, .h => .rr_h | .rr, .l => .rr_l | .rr, .a => .rr_a | .sla, .b => .sla_b | .sla, .c => .sla_c
  | .sla, .d => .sla_d | .sla, .e => .sla_e | .sla, .h => .sla_h | .sla, .l => .sla_l | .sla, .a => .sla_a
  | .sra, .b => .sra_b | .sra, .c => .sra_c | .sra, .d => .sra_d | .sra, .e => .sra_e | .sra, .h => .sra_h
  | .sra, .l => .sra_l | .sra, .a => .sra_a | .swap, .b => .swap_b | .swap, .c => .swap_c
  | .swap, .d => .swap_d | .swap, .e => .swap_e | .swap, .h => .swap_h | .swap, .l => .swap_l
  | .swap, .a => .swap_a | .srl, .b => .srl_b | .srl, .c => .srl_c | .srl, .d => .srl_d | .srl, .e => .srl_e
  | .srl, .h => .srl_h | .srl, .l => .srl_l | .srl, .a => .srl_a

/-- The extended `op (HL)`. -/
def Forms.cbHL : CbOp → Instr
  | .rlc => .rlc_mhl | .rrc => .rrc_mhl | .rl => .rl_mhl | .rr => .rr_mhl | .sla => .sla_mhl
  | .sra => .sra_mhl | .swap => .swap_mhl | .srl => .srl_mhl

/-! ### Registers by name -/

/-- The register an `r` field names (spec/30_encoding.md R116). -/
def State.reg (s : State) : GReg → Byte
  | .b => s.b | .c => s.c | .d => s.d | .e => s.e | .h => s.h | .l => s.l | .a => s.a

/-- `s` with one register written. -/
def State.setReg (s : State) (r : GReg) (v : Byte) : State :=
  match r with
  | .b => { s with b := v } | .c => { s with c := v } | .d => { s with d := v } | .e => { s with e := v }
  | .h => { s with h := v } | .l => { s with l := v } | .a => { s with a := v }

/-- The pair or cell an `rp` field names (R117), a pair as `{high, low}` (spec/10_state.md R32). -/
def State.pair (s : State) : Rp → Word
  | .bc => s.b ++ s.c | .de => s.d ++ s.e | .hl => s.h ++ s.l | .sp => s.sp

/-- `s` with both halves of a pair written (R33), or `SP`. -/
def State.setPair (s : State) (rr : Rp) (v : Word) : State :=
  match rr with
  | .bc => { s with b := v.extractLsb' 8 8, c := v.extractLsb' 0 8 }
  | .de => { s with d := v.extractLsb' 8 8, e := v.extractLsb' 0 8 }
  | .hl => { s with h := v.extractLsb' 8 8, l := v.extractLsb' 0 8 }
  | .sp => { s with sp := v }

/-- What an 8-bit name reads as (spec/10_state.md R30, R35, R39). -/
def State.cell (s : State) : Reg8 → Byte
  | .a => s.a | .f => s.f &&& 0xF0 | .b => s.b | .c => s.c | .d => s.d | .e => s.e | .h => s.h | .l => s.l
  | .th => s.th | .tl => s.tl

/-- What a 16-bit name reads as: a cell, or a pair as `{high, low}` (R32, R34, R36, R41). -/
def State.wide (s : State) : Reg16 → Word
  | .pc => s.pc | .sp => s.sp | .bus => s.bus | .af => s.a ++ (s.f &&& 0xF0) | .bc => s.b ++ s.c
  | .de => s.d ++ s.e | .hl => s.h ++ s.l | .tmp => s.th ++ s.tl

/-- `s` with an 8-bit name written, `F` without its low bits (R39). -/
def State.setCell (s : State) (n : Reg8) (v : Byte) : State :=
  match n with
  | .a => { s with a := v } | .f => { s with f := v &&& 0xF0 } | .b => { s with b := v } | .c => { s with c := v }
  | .d => { s with d := v } | .e => { s with e := v } | .h => { s with h := v } | .l => { s with l := v }
  | .th => { s with th := v } | .tl => { s with tl := v }

/-- `s` with a 16-bit name written: a cell, or both halves of a pair (R33). -/
def State.setWide (s : State) (n : Reg16) (v : Word) : State :=
  match n with
  | .pc => { s with pc := v } | .sp => { s with sp := v } | .bus => { s with bus := v }
  | .af => { s with a := v.extractLsb' 8 8, f := v.extractLsb' 0 8 &&& 0xF0 }
  | .bc => { s with b := v.extractLsb' 8 8, c := v.extractLsb' 0 8 }
  | .de => { s with d := v.extractLsb' 8 8, e := v.extractLsb' 0 8 }
  | .hl => { s with h := v.extractLsb' 8 8, l := v.extractLsb' 0 8 }
  | .tmp => { s with th := v.extractLsb' 8 8, tl := v.extractLsb' 0 8 }

/-- The pairs `LD rr,d16` loads, among the pair codes. -/
def Forms.rp : Pair → Rp
  | .bc => .bc | .de => .de | .hl => .hl

/-- The duration table (spec/40_pipeline.md R173), the flags telling whether a conditional jump is taken. -/
def Forms.duration (d : Descriptor) (f : Byte) : Nat :=
  match d with
  | .nop | .ldRR _ _ | .inc8 _ | .dec8 _ | .prefixCB | .cbR _ _ | .cls | .aluR _ _ | .rotA _ => 4
  | .ld8I _ | .ldHL _ | .stHL _ | .inc16 _ | .dec16 _ | .aluHL _ | .aluI _ => 8
  | .ld16 _ | .ldSP16 | .cbHL _ | .jr => 12
  | .jrCC .nz => if f.getLsbD 7 = true then 8 else 12
  | .jrCC .z => if f.getLsbD 7 = true then 12 else 8
  | .jrCC .nc => if f.getLsbD 4 = true then 8 else 12
  | .jrCC .c => if f.getLsbD 4 = true then 12 else 8
  | .jp | .ret => 16
  | .call => 24

/-- `s` with a byte of memory stored: the byte at `a` reads `v`, every other byte reads as before. -/
def StoresAt (m m' : Memory) (a : Nat) (v : Byte) : Prop :=
  m'.read a = v ∧ ∀ k, k ≠ a → m'.read k = m.read k

/-- An outcome with its next state changed by `g`. -/
def mapNext (g : State → State) : StepOutcome → StepOutcome
  | .next t => .next (g t)
  | .fault r => .fault r
  | .refused r => .refused r

/-- The outcome of a host operation with its state changed by `g`. -/
def mapHost (g : State → State) : HostOutcome → HostOutcome
  | .next r => .next { state := g r.state, reply := r.reply }
  | .fault r => .fault r
  | .refused r => .refused r

/-- `Push` of each address in turn (spec/10_state.md R54). -/
def pushAll (p : Params) : List Word → State → OpResult
  | [], s => .done s
  | a :: as, s =>
    match push p a s with
    | .done t => pushAll p as t
    | .raised e t => .raised e t
    | .refused r => .refused r

/-- `PopPC` `n` times, with `PC` after each (R54). -/
def popAll (p : Params) : Nat → State → Option (List Word)
  | 0, _ => some []
  | n + 1, s =>
    match popPC p s with
    | .done t => (popAll p n t).map (t.pc :: ·)
    | .raised _ _ => none
    | .refused _ => none

/-! ### Where an instruction ends -/

/-- `s` carried to the next boundary of an instruction of `n` bytes and `dur` ticks: `PC` past its bytes, the prefix flag
clear, the tick counter at the boundary, and that boundary alone pending (spec/40_pipeline.md R167, R174, R177). -/
def State.boundaryAfter (n dur : Nat) (s : State) : State :=
  { s with
    pc := s.pc + BitVec.ofNat 16 n
    ext := false
    seeded := true
    tickCount := s.tickCount + dur
    queue := [(s.tickCount + dur, .effect .fde)] }

/-- `s` with the error `e` taken at offset `k` of an instruction (spec/60_exceptions.md R326). -/
def State.errorAt (e : CoreError) (k : Nat) (s : State) : State :=
  { s with ext := false, seeded := true, fault := some e, tickCount := s.tickCount + k + 1, queue := [] }

/-- The byte at the offset `n` from the opcode byte. -/
def State.byteAt (s : State) (n : Nat) : Byte := s.mem.read (s.pc.toNat + n)

/-- The two bytes after the opcode byte as a 16-bit immediate, the high byte first (spec/30_encoding.md R123). -/
def State.immediate (s : State) : Word := s.byteAt 1 ++ s.byteAt 2

/-- The target of a relative jump, an unwrapped integer: the address after the instruction plus the signed byte after the
opcode (R122, spec/44_control.md R291). -/
def State.jumpTarget (s : State) : Int := s.pc.toNat + 2 + (s.byteAt 1).toInt

/-- The address in `HL`: `{H, L}` (spec/10_state.md R32). -/
def State.hlAddress (s : State) : Nat := s.h.toNat * 256 + s.l.toNat

/-- The address in `HL` as the bus latch holds it. -/
def State.hlWord (s : State) : Word := s.h ++ s.l

/-! ### Results and flags, from the spec's text -/

/-- `F` holds exactly these flags, in the layout of spec/10_state.md R38, its low four bits clear (R39). -/
def FlagsAre (f : Byte) (z n h c : Prop) : Prop :=
  (f.getLsbD 7 = true ↔ z) ∧ (f.getLsbD 6 = true ↔ n) ∧ (f.getLsbD 5 = true ↔ h) ∧ (f.getLsbD 4 = true ↔ c) ∧
    f &&& 0x0F = 0

/-- The carry flag as a number (spec/00_scope.md R17). -/
def carryIn (f : Byte) : Nat := if f.getLsbD 4 = true then 1 else 0

/-- The rows of spec/42_arith.md R224: the new `A` and `F`, from `x = R[A]`, the operand `v` and `c = F.C`. -/
def AluRule (op : AluOp) (x v c : Nat) (a f : Byte) : Prop :=
  match op with
  | .add => a.toNat = (x + v) % 256 ∧
      FlagsAre f ((x + v) % 256 = 0) False (15 < x % 16 + v % 16) (255 < x + v)
  | .adc => a.toNat = (x + v + c) % 256 ∧
      FlagsAre f ((x + v + c) % 256 = 0) False (15 < x % 16 + v % 16 + c) (255 < x + v + c)
  | .sub => (a.toNat : Int) = ((x : Int) - v) % 256 ∧
      FlagsAre f (((x : Int) - v) % 256 = 0) True (x % 16 < v % 16) (x < v)
  | .sbc => (a.toNat : Int) = ((x : Int) - v - c) % 256 ∧
      FlagsAre f (((x : Int) - v - c) % 256 = 0) True (x % 16 < v % 16 + c) (x < v + c)
  | .and => a.toNat = x &&& v ∧ FlagsAre f (x &&& v = 0) False True False
  | .xor => a.toNat = x ^^^ v ∧ FlagsAre f (x ^^^ v = 0) False False False
  | .or => a.toNat = x ||| v ∧ FlagsAre f (x ||| v = 0) False False False
  | .cp => a.toNat = x ∧ FlagsAre f (((x : Int) - v) % 256 = 0) True (x % 16 < v % 16) (x < v)

/-- `Inc8` (R220): the result and the flags, `C` from before. -/
def Inc8Rule (v : Nat) (c : Prop) (r f : Byte) : Prop :=
  r.toNat = (v + 1) % 256 ∧ FlagsAre f ((v + 1) % 256 = 0) False (v % 16 = 15) c

/-- `Dec8` (R221): the result and the flags, `C` from before. -/
def Dec8Rule (v : Nat) (c : Prop) (r f : Byte) : Prop :=
  (r.toNat : Int) = ((v : Int) - 1) % 256 ∧ FlagsAre f (((v : Int) - 1) % 256 = 0) True (v % 16 = 0) c

/-- The accumulator rotates (spec/43_rotate_shift.md R260 to R263), from `A = v` and `F.C = k`: bit 7 of `v` is
`v / 128`, bit 0 is `v % 2`. -/
def RotARule (op : RotAOp) (v k : Nat) (a f : Byte) : Prop :=
  match op with
  | .rlca => a.toNat = 2 * v % 256 + v / 128 ∧ FlagsAre f False False False (v / 128 = 1)
  | .rrca => a.toNat = v / 2 + 128 * (v % 2) ∧ FlagsAre f False False False (v % 2 = 1)
  | .rla => a.toNat = 2 * v % 256 + k ∧ FlagsAre f False False False (v / 128 = 1)
  | .rra => a.toNat = v / 2 + 128 * k ∧ FlagsAre f False False False (v % 2 = 1)

/-- The result of the extended operations (R264), from the operand `v` and `k = F.C`. -/
def cbNumber (op : CbOp) (v k : Nat) : Nat :=
  match op with
  | .rlc => 2 * v % 256 + v / 128
  | .rrc => v / 2 + 128 * (v % 2)
  | .rl => 2 * v % 256 + k
  | .rr => v / 2 + 128 * k
  | .sla => 2 * v % 256
  | .sra => v / 2 + 128 * (v / 128)
  | .swap => 16 * (v % 16) + v / 16
  | .srl => v / 2

/-- The bit the extended operations move into `C` (R264). -/
def cbBit (op : CbOp) (v : Nat) : Nat :=
  match op with
  | .rlc | .rl | .sla => v / 128
  | .rrc | .rr | .sra | .srl => v % 2
  | .swap => 0

/-- The extended operations (R264): the result byte and the flags. -/
def CbRule (op : CbOp) (v k : Nat) (r f : Byte) : Prop :=
  r.toNat = cbNumber op v k ∧ FlagsAre f (cbNumber op v k = 0) False False (cbBit op v = 1)

/-- The condition codes (spec/30_encoding.md R118). -/
def CcRule (cc : Cc) (f : Byte) : Prop :=
  match cc with
  | .nz => f.getLsbD 7 = false
  | .z => f.getLsbD 7 = true
  | .nc => f.getLsbD 4 = false
  | .c => f.getLsbD 4 = true

end Sys2Proof.Machine
end

