-- ==== Sys2Proof/Certificates/Slice0/Obligations.lean ====
section
/-! DEFINITION. The statements for the provers: one `Obligations.<Name>` for each, listed in OBLIGATIONS.json. Addresses
and depths are the literals of the reference parameters (spec/00_scope.md R7): memory ends at 0x10000, the working region
begins at 0x8000, the call stack holds 16 entries. -/

open Sys2Proof Sys2Proof.Machine

/-! ### Encoding and decoding -/

/-- Encoding a well-formed line and decoding its bytes gives the line back, with every operand byte and whatever follows
it (spec/30_encoding.md R112, R114, R123). -/
def Obligations.EncodeThenDecode : Prop :=
  ∀ (l : Line) (rest : List Byte), l.wellFormed = true →
    decodeLine referenceRom (encode l ++ rest) = .ok (l, rest)

/-- Whatever decodes, decodes to a well-formed line, and encoding it gives the same bytes back: each byte sequence has one
reading (R111, R114, R124, R125). -/
def Obligations.DecodeThenEncode : Prop :=
  ∀ (bytes rest : List Byte) (l : Line), decodeLine referenceRom bytes = .ok (l, rest) →
    l.wellFormed = true ∧ encode l ++ rest = bytes

/-- The bytes with no entry are exactly the 73 primary bytes and the 192 extended bytes listed in R126. -/
def Obligations.UnknownOpcodesAreTheListed : Prop :=
  (∀ b : Byte, referenceRom false b = none ↔
    b.toNat ∈ [0x02, 0x08, 0x09, 0x0A, 0x10, 0x12, 0x19, 0x1A, 0x22, 0x27, 0x29, 0x2A, 0x2F, 0x32, 0x34, 0x35, 0x36,
      0x37, 0x39, 0x3A, 0x3F, 0x76, 0xC0, 0xC1, 0xC2, 0xC4, 0xC5, 0xC7, 0xC8, 0xCA, 0xCC, 0xCF, 0xD0, 0xD1, 0xD2, 0xD4,
      0xD5, 0xD7, 0xD8, 0xD9, 0xDA, 0xDB, 0xDC, 0xDD, 0xDF, 0xE0, 0xE1, 0xE2, 0xE3, 0xE4, 0xE5, 0xE7, 0xE8, 0xE9, 0xEA,
      0xEB, 0xEC, 0xED, 0xEF, 0xF0, 0xF1, 0xF2, 0xF3, 0xF4, 0xF5, 0xF7, 0xF8, 0xF9, 0xFA, 0xFB, 0xFC, 0xFD, 0xFF]) ∧
  (∀ b : Byte, referenceRom true b = none ↔ 0x40 ≤ b.toNat)

/-- A few table words decode to the rows they stand for; the words are written out from the encodings of R200, R203, R225,
R292, R299, R312 and R277. A sanity statement. That the extended row is read as `0xCB` then its byte is the model's reading
of the table (assumption log 2). -/
def Obligations.TableWordsDecode : Prop :=
  decodeTableWord 8 0b00000001 = some .ld_bc_d16 ∧ decodeTableWord 8 0b01111000 = some .ld_a_b ∧
  decodeTableWord 8 0b10000000 = some .add_a_b ∧ decodeTableWord 8 0b00100000 = some .jr_nz_e8 ∧
  decodeTableWord 8 0xCD = some .call_a16 ∧ decodeTableWord 8 0xD3 = some .cls ∧
  decodeTableWord 16 0xCB37 = some .swap_a ∧ decodeTableWord 8 0x76 = none

/-! ### Construction, reset and plans -/

/-- The reference parameters construct a core, in the power-on state: every register and latch 0 but `PC`, no error, no
work pending, an empty call stack, every byte of memory 0 and every pixel 0 (spec/10_state.md R60,
spec/70_reset_and_hazards.md R372, spec/30_encoding.md R113). -/
def Obligations.PowerOnValues : Prop :=
  construct Params.reference = .next State.reset ∧
  State.reset.a = 0 ∧ State.reset.f = 0 ∧ State.reset.b = 0 ∧ State.reset.c = 0 ∧ State.reset.d = 0 ∧ State.reset.e = 0 ∧
  State.reset.h = 0 ∧ State.reset.l = 0 ∧ State.reset.th = 0 ∧ State.reset.tl = 0 ∧ State.reset.pc = 0x0100 ∧
  State.reset.sp = 0 ∧ State.reset.bus = 0 ∧ State.reset.ext = false ∧ State.reset.seeded = false ∧
  State.reset.fault = none ∧ State.reset.tickCount = 0 ∧ State.reset.queue = [] ∧ State.reset.callStack = [] ∧
  (∀ a, State.reset.mem.read a = 0x00) ∧ State.reset.dt = 0 ∧ State.reset.st = 0 ∧ State.reset.timerTicks = 0 ∧
  State.reset.keys = 0 ∧ ∀ row col, pixel State.reset row col = false

/-- `reset()` in any state, faulted or not: every piece of state takes its reset value and memory keeps its contents; a
second `reset()` changes nothing (spec/70_reset_and_hazards.md R370, R371). -/
def Obligations.ResetProcedure : Prop :=
  ∀ (p : Params) (s : State),
    (∃ t, hostStep p .reset s = .next { state := t, reply := .none } ∧
      t.a = 0 ∧ t.f = 0 ∧ t.b = 0 ∧ t.c = 0 ∧ t.d = 0 ∧ t.e = 0 ∧ t.h = 0 ∧ t.l = 0 ∧ t.th = 0 ∧ t.tl = 0 ∧
      t.pc = p.resetPc ∧ t.sp = 0 ∧ t.bus = 0 ∧ t.queue = [] ∧ t.tickCount = 0 ∧ t.ext = false ∧ t.seeded = false ∧
      t.fault = none ∧ t.callStack = [] ∧ t.dt = 0 ∧ t.st = 0 ∧ t.timerTicks = 0 ∧ t.keys = 0 ∧
      (∀ row col, pixel t row col = false) ∧ t.mem = s.mem) ∧
    resetCore p (resetCore p s) = resetCore p s

/-- The handler plan of every descriptor, its branch condition holding or not (`t`), offsets and durations as the rules
write them out (spec/40_pipeline.md R172, R173, and the plan of each family rule from spec/41_loads.md R200 to
spec/45_system.md R312); which of a conditional jump's two plans is taken, by the flags at the fetch (R170); the cells that
register codes name (spec/30_encoding.md R116); and every plan within the handler contract of R169. -/
def Obligations.HandlerPlans : Prop :=
  (∀ (t : Bool) (r r' : GReg) (rr : Rp) (op : AluOp) (ro : RotAOp) (co : CbOp) (cc : Cc),
    planFor .nop t = { ops := [], dur := 4 } ∧
    planFor .prefixCB t = { ops := [], dur := 4 } ∧
    planFor .cls t = { ops := [(3, .effect .clearFB)], dur := 4 } ∧
    planFor (.ld16 .bc) t =
      { ops := [(4, .transfer (.reg16 .pc) (.reg16 .bus)), (5, .effect .incPC),
                (7, .transfer (.mem .bus) (.reg8 .b)), (8, .transfer (.reg16 .pc) (.reg16 .bus)),
                (9, .effect .incPC), (11, .transfer (.mem .bus) (.reg8 .c))]
        dur := 12 } ∧
    planFor (.ld16 .de) t =
      { ops := [(4, .transfer (.reg16 .pc) (.reg16 .bus)), (5, .effect .incPC),
                (7, .transfer (.mem .bus) (.reg8 .d)), (8, .transfer (.reg16 .pc) (.reg16 .bus)),
                (9, .effect .incPC), (11, .transfer (.mem .bus) (.reg8 .e))]
        dur := 12 } ∧
    planFor (.ld16 .hl) t =
      { ops := [(4, .transfer (.reg16 .pc) (.reg16 .bus)), (5, .effect .incPC),
                (7, .transfer (.mem .bus) (.reg8 .h)), (8, .transfer (.reg16 .pc) (.reg16 .bus)),
                (9, .effect .incPC), (11, .transfer (.mem .bus) (.reg8 .l))]
        dur := 12 } ∧
    planFor .ldSP16 t =
      { ops := [(4, .transfer (.reg16 .pc) (.reg16 .bus)), (5, .effect .incPC),
                (7, .transfer (.mem .bus) (.reg8 .th)), (8, .transfer (.reg16 .pc) (.reg16 .bus)),
                (9, .effect .incPC), (11, .transfer (.mem .bus) (.reg8 .tl)),
                (11, .transfer (.reg16 .tmp) (.reg16 .sp))]
        dur := 12 } ∧
    planFor (.ld8I r) t =
      { ops := [(4, .transfer (.reg16 .pc) (.reg16 .bus)), (5, .effect .incPC),
                (7, .transfer (.mem .bus) (.reg8 (regCell r)))]
        dur := 8 } ∧
    planFor (.ldRR r r') t = { ops := [(3, .transfer (.reg8 (regCell r')) (.reg8 (regCell r)))], dur := 4 } ∧
    planFor (.ldHL r) t =
      { ops := [(4, .transfer (.reg16 .hl) (.reg16 .bus)), (7, .transfer (.mem .bus) (.reg8 (regCell r)))]
        dur := 8 } ∧
    planFor (.stHL r) t =
      { ops := [(4, .transfer (.reg16 .hl) (.reg16 .bus)), (7, .transfer (.reg8 (regCell r)) (.mem .bus))]
        dur := 8 } ∧
    planFor (.inc8 r) t = { ops := [(3, .effect (.inc8 r))], dur := 4 } ∧
    planFor (.dec8 r) t = { ops := [(3, .effect (.dec8 r))], dur := 4 } ∧
    planFor (.inc16 rr) t = { ops := [(7, .effect (.inc16 rr))], dur := 8 } ∧
    planFor (.dec16 rr) t = { ops := [(7, .effect (.dec16 rr))], dur := 8 } ∧
    planFor (.aluR op r) t = { ops := [(3, .effect (.alu op (regCell r)))], dur := 4 } ∧
    planFor (.aluHL op) t =
      { ops := [(4, .transfer (.reg16 .hl) (.reg16 .bus)), (7, .transfer (.mem .bus) (.reg8 .tl)),
                (7, .effect (.alu op .tl))]
        dur := 8 } ∧
    planFor (.aluI op) t =
      { ops := [(4, .transfer (.reg16 .pc) (.reg16 .bus)), (5, .effect .incPC),
                (7, .transfer (.mem .bus) (.reg8 .tl)), (7, .effect (.alu op .tl))]
        dur := 8 } ∧
    planFor (.rotA ro) t = { ops := [(3, .effect (.rotA ro))], dur := 4 } ∧
    planFor (.cbR co r) t = { ops := [(3, .effect (.cb co (regCell r)))], dur := 4 } ∧
    planFor (.cbHL co) t =
      { ops := [(4, .transfer (.reg16 .hl) (.reg16 .bus)), (7, .transfer (.mem .bus) (.reg8 .tl)),
                (7, .effect (.cb co .tl)), (11, .transfer (.reg8 .tl) (.mem .bus))]
        dur := 12 } ∧
    planFor .jr t =
      { ops := [(4, .transfer (.reg16 .pc) (.reg16 .bus)), (5, .effect .incPC),
                (7, .transfer (.mem .bus) (.reg8 .tl)), (11, .effect .jumpRel)]
        dur := 12 } ∧
    planFor (.jrCC cc) true =
      { ops := [(4, .transfer (.reg16 .pc) (.reg16 .bus)), (5, .effect .incPC),
                (7, .transfer (.mem .bus) (.reg8 .tl)), (11, .effect .jumpRel)]
        dur := 12 } ∧
    planFor (.jrCC cc) false =
      { ops := [(4, .transfer (.reg16 .pc) (.reg16 .bus)), (5, .effect .incPC),
                (7, .transfer (.mem .bus) (.reg8 .tl))]
        dur := 8 } ∧
    planFor .jp t =
      { ops := [(4, .transfer (.reg16 .pc) (.reg16 .bus)), (5, .effect .incPC),
                (7, .transfer (.mem .bus) (.reg8 .th)), (8, .transfer (.reg16 .pc) (.reg16 .bus)),
                (9, .effect .incPC), (11, .transfer (.mem .bus) (.reg8 .tl)),
                (15, .transfer (.reg16 .tmp) (.reg16 .pc))]
        dur := 16 } ∧
    planFor .call t =
      { ops := [(4, .transfer (.reg16 .pc) (.reg16 .bus)), (5, .effect .incPC),
                (7, .transfer (.mem .bus) (.reg8 .th)), (8, .transfer (.reg16 .pc) (.reg16 .bus)),
                (9, .effect .incPC), (11, .transfer (.mem .bus) (.reg8 .tl)), (19, .effect .pushPC),
                (23, .transfer (.reg16 .tmp) (.reg16 .pc))]
        dur := 24 } ∧
    planFor .ret t = { ops := [(15, .effect .popPC)], dur := 16 }) ∧
  (∀ (d : Descriptor) (s : State), (∀ cc, d ≠ .jrCC cc) → plan d s = planFor d true) ∧
  (∀ (cc : Cc) (s : State), CcRule cc s.f → plan (.jrCC cc) s = planFor (.jrCC cc) true) ∧
  (∀ (cc : Cc) (s : State), ¬CcRule cc s.f → plan (.jrCC cc) s = planFor (.jrCC cc) false) ∧
  (∀ (r : GReg) (s : State), readReg8 (regCell r) s = s.reg r) ∧
  ∀ (d : Descriptor) (taken : Bool), (planFor d taken).wellFormed = true

/-! ### Micro-operations and shared operations -/

/-- The fetch-decode-execute step (spec/40_pipeline.md R167, R168): the table `EXT` selects is read at the byte at `PC`;
an unknown byte raises with `EXT` cleared and nothing scheduled; otherwise `EXT` is set by the prefix and cleared by any
other instruction, and the increment of `PC`, the handler's pairs and the next boundary are scheduled, in that order, each
behind what its tick already held. The queue is in tick order, as every run keeps it. -/
def Obligations.FetchDecodeExecute : Prop :=
  ∀ (p : Params) (s : State), s.pc.toNat < p.memSize → s.queue.Pairwise (fun x y => x.1 ≤ y.1) →
    (p.rom s.ext (s.byteAt 0) = none →
      runEffect p .fde s = .raised (.unknownOpcode (s.byteAt 0) s.pc) { s with ext := false }) ∧
    (∀ i, p.rom s.ext (s.byteAt 0) = some i →
      ∃ q, runEffect p .fde s = .done { s with ext := decide (i = .prefixCB), queue := q } ∧
        ∀ t, dueAt t q = dueAt t s.queue ++
          ((((1, MicroOp.effect .incPC) :: (plan i.descriptor s).ops) ++
            [((plan i.descriptor s).dur, MicroOp.effect .fde)]).filter fun x => s.tickCount + x.1 == t).map (·.2))

/-- `MemRead` and `MemWrite` (spec/20_memory.md R83, R84): an address outside memory raises with that address; both
regions are readable; a write to the program region raises and writes nothing; any other write stores its byte, and every
other byte reads as before. -/
def Obligations.MemoryAccess : Prop :=
  ∀ (p : Params) (a : Int) (v : Byte) (s : State),
    ((a < 0 ∨ (p.memSize : Int) ≤ a) →
      memRead p a s = .error (.outOfRangeAccess a) ∧ memWrite p a v s = .raised (.outOfRangeAccess a) s) ∧
    (0 ≤ a → a < p.memSize → memRead p a s = .ok (s.mem.read a.toNat)) ∧
    (0 ≤ a → a < p.memSize → a < p.progEnd → memWrite p a v s = .raised (.outOfRangeAccess a) s) ∧
    (0 ≤ a → a < p.memSize → (p.progEnd : Int) ≤ a →
      ∃ m, memWrite p a v s = .done { s with mem := m } ∧ StoresAt s.mem m a.toNat v)

/-- Register pairs are views (spec/10_state.md R32, R33): reading a pair returns its high cell and its low cell, and
writing it writes both, the low half of `AF` masked. -/
def Obligations.PairViews : Prop :=
  ∀ (p : Params) (v : Word) (s : State),
    readReg16 .bc s = s.b ++ s.c ∧ readReg16 .de s = s.d ++ s.e ∧ readReg16 .hl s = s.h ++ s.l ∧
    readReg16 .tmp s = s.th ++ s.tl ∧ readReg16 .af s = s.a ++ readReg8 .f s ∧
    writeReg16 p .bc v s = .done { s with b := v.extractLsb' 8 8, c := v.extractLsb' 0 8 } ∧
    writeReg16 p .de v s = .done { s with d := v.extractLsb' 8 8, e := v.extractLsb' 0 8 } ∧
    writeReg16 p .hl v s = .done { s with h := v.extractLsb' 8 8, l := v.extractLsb' 0 8 } ∧
    writeReg16 p .tmp v s = .done { s with th := v.extractLsb' 8 8, tl := v.extractLsb' 0 8 } ∧
    writeReg16 p .af v s = .done { s with a := v.extractLsb' 8 8, f := v.extractLsb' 0 8 &&& 0xF0 }

/-- `F[3:0]` always reads 0, and any write of a value to `F`, by an effect, through `AF` or by the host, stores it with
those bits cleared (spec/10_state.md R39). -/
def Obligations.FlagsLowBits : Prop :=
  ∀ (p : Params) (s : State),
    (readReg8 .f s).toNat % 16 = 0 ∧
    (∀ v, (writeReg8 .f v s).f.toNat = v.toNat - v.toNat % 16) ∧
    (∀ v t, writeReg16 p .af v s = .done t → t.f.toNat = v.toNat % 256 - v.toNat % 16) ∧
    (∀ v, hostStep p (.set8 .f v) s = .next { state := { s with f := BitVec.ofNat 8 (v.toNat - v.toNat % 16) }, reply := .ok }) ∧
    (∀ e t, e ≠ .fde → runEffect p e s = .done t → t.f = s.f ∨ t.f.toNat % 16 = 0)

/-- The effects that move `PC` on: `IncPC` adds one, and at the top of memory raises with the size of memory
(spec/40_pipeline.md R155); `JumpRel` adds the signed byte in `TL` as an integer, and outside memory raises with that
integer (spec/44_control.md R290). Neither writes anything else, and where they raise `PC` is unchanged. -/
def Obligations.ProgramCounterEffects : Prop :=
  ∀ (p : Params) (s : State), p.memSize ≤ 0x10000 → s.pc.toNat < p.memSize →
    (s.pc.toNat + 1 < p.memSize → runEffect p .incPC s = .done { s with pc := s.pc + 1 }) ∧
    (s.pc.toNat + 1 = p.memSize → runEffect p .incPC s = .raised (.outOfRangeAccess p.memSize) s) ∧
    (∀ target : Int, target = s.pc.toNat + s.tl.toInt →
      (0 ≤ target → target < p.memSize →
        ∃ w : Word, (w.toNat : Int) = target ∧ runEffect p .jumpRel s = .done { s with pc := w }) ∧
      (¬(0 ≤ target ∧ target < p.memSize) → runEffect p .jumpRel s = .raised (.outOfRangeAccess target) s))

/-- `PushPC` and `PopPC` (spec/10_state.md R52, spec/44_control.md R296, R297): a push appends `PC` unless the stack holds
its capacity; a pop takes the top entry and writes it to `PC`, both or neither. -/
def Obligations.CallStackEffects : Prop :=
  ∀ (p : Params) (s : State), s.callStack.length ≤ p.callStackCapacity →
    (s.callStack.length = p.callStackCapacity → runEffect p .pushPC s = .raised .callStackOverflow s) ∧
    (s.callStack.length < p.callStackCapacity →
      runEffect p .pushPC s = .done { s with callStack := s.callStack ++ [s.pc] }) ∧
    (s.callStack = [] → runEffect p .popPC s = .raised .callStackUnderflow s) ∧
    (∀ rest t, s.callStack = rest ++ [t] →
      (t.toNat < p.memSize → runEffect p .popPC s = .done { s with pc := t, callStack := rest }) ∧
      (p.memSize ≤ t.toNat → runEffect p .popPC s = .raised (.outOfRangeAccess t.toNat) s))

/-- Addresses pushed one after another, within the free capacity, are popped in reverse order, and `PC` after each pop is
the popped value (spec/10_state.md R54). -/
def Obligations.CallStackIsLifo : Prop :=
  ∀ (p : Params) (as : List Word) (s : State), (∀ a ∈ as, a.toNat < p.memSize) →
    s.callStack.length + as.length ≤ p.callStackCapacity →
    ∃ t, pushAll p as s = .done t ∧ popAll p as.length t = some as.reverse

/-- The execution queue, in tick order (the model's form of the map, assumption log 7): scheduling appends at its tick and changes no other tick's list; draining a tick
takes all of that tick's list, in order, and nothing else; both keep the tick order (spec/40_pipeline.md R160, R161,
R163). -/
def Obligations.ScheduleAndDrain : Prop :=
  ∀ (q : Queue) (t : Nat) (op : MicroOp), q.Pairwise (fun x y => x.1 ≤ y.1) →
    dueAt t (schedule t op q) = dueAt t q ++ [op] ∧
    (∀ k, k ≠ t → dueAt k (schedule t op q) = dueAt k q) ∧
    dueAt t (notDueAt t q) = [] ∧
    (∀ k, k ≠ t → dueAt k (notDueAt t q) = dueAt k q) ∧
    (schedule t op q).Pairwise (fun x y => x.1 ≤ y.1) ∧ (notDueAt t q).Pairwise (fun x y => x.1 ≤ y.1)

/-- The `Alu(op, s)` effect (spec/42_arith.md R224), its operand in any programmer register or in `TL`: the new `A` and
the four flags of the operation's row, nothing else written, and no error. -/
def Obligations.AluEffect : Prop :=
  ∀ (p : Params) (op : AluOp) (s : State),
    (∀ r : GReg, ∃ a f, AluRule op s.a.toNat (s.reg r).toNat (carryIn s.f) a f ∧
      runEffect p (.alu op (regCell r)) s = .done { s with a := a, f := f }) ∧
    ∃ a f, AluRule op s.a.toNat s.tl.toNat (carryIn s.f) a f ∧
      runEffect p (.alu op .tl) s = .done { s with a := a, f := f }

/-- The `Cb(op, t)` effect (spec/43_rotate_shift.md R264), on any programmer register or on `TL`: the result byte and the
four flags of the operation's row, nothing else written, and no error. -/
def Obligations.CbEffect : Prop :=
  ∀ (p : Params) (op : CbOp) (s : State),
    (∀ r : GReg, ∃ v f, CbRule op (s.reg r).toNat (carryIn s.f) v f ∧
      runEffect p (.cb op (regCell r)) s = .done { s.setReg r v with f := f }) ∧
    ∃ v f, CbRule op s.tl.toNat (carryIn s.f) v f ∧
      runEffect p (.cb op .tl) s = .done { s with tl := v, f := f }

/-! ### Errors, recovery and the host -/

/-- Taking an error (spec/60_exceptions.md R326, R328, R329): where the operations due at a tick run up to one that raises,
every write before it stays, the rest of the tick and the whole queue are discarded, the error is latched and returned, and
the tick counter advances by one. The raising step commits nothing, but for a failed fetch's clearing of `EXT`
(assumption log 5). -/
def Obligations.TakingAnError : Prop :=
  ∀ (p : Params) (s s₁ s₂ : State) (before after : List MicroOp) (op : MicroOp) (e : CoreError),
    s.fault = none → s.seeded = true → dueAt s.tickCount s.queue = before ++ op :: after →
    runOps p before { s with queue := notDueAt s.tickCount s.queue } = .done s₁ → runOp p op s₁ = .raised e s₂ →
    hostStep p .tick s =
      .next { state := { s₂ with fault := some e, queue := [], tickCount := s.tickCount + 1 }, reply := .err e } ∧
    (op ≠ .effect .fde → s₂ = s₁) ∧ (op = .effect .fde → s₂ = { s₁ with ext := s₂.ext })

/-- While an error is latched (spec/60_exceptions.md R327): a tick changes no state and returns the error; every host operation but `resume` and `reset` leaves it latched, and those two clear it; the timer
domain, the accessors and `reset` do what they do without an error. -/
def Obligations.FaultedCore : Prop :=
  ∀ (p : Params) (s : State) (e : CoreError), s.fault = some e →
    hostStep p .tick s = .next { state := s, reply := .err e } ∧
    (∀ op r, hostStep p op s = .next r → op ≠ .resume → op ≠ .reset → r.state.fault = some e) ∧
    (∀ op r, hostStep p op s = .next r → op = .resume ∨ op = .reset → r.state.fault = none) ∧
    (∀ op, op ≠ .tick → op ≠ .resume → op ≠ .reset → op ≠ .fault →
      hostStep p op s = mapHost (fun t => { t with fault := some e }) (hostStep p op { s with fault := none })) ∧
    hostStep p .reset s = hostStep p .reset { s with fault := none }

/-- `resume()` (spec/60_exceptions.md R330): nothing where no error is latched; else the error is cleared, `SEEDED` is
cleared and nothing else changes, and the next tick begins with a fetch-decode-execute step at the current `PC`; with the
queue empty, as an error leaves it (R326), that is a boundary. -/
def Obligations.Resume : Prop :=
  ∀ (p : Params) (s : State),
    (s.fault = none → hostStep p .resume s = .next { state := s, reply := .none }) ∧
    (s.fault ≠ none →
      hostStep p .resume s = .next { state := { s with fault := none, seeded := false }, reply := .none } ∧
      seed p { s with fault := none, seeded := false } =
        runEffect p .fde { s with fault := none, seeded := true } ∧
      (s.queue = [] → { s with fault := none, seeded := false }.atBoundary = true))

/-- `load_rom` (spec/20_memory.md R98): refused once a tick has run; a sequence that does not lie in the program region
returns an error, with the first of its addresses outside that region, and copies nothing; else byte `i` of the sequence is
stored at `base + i`, every other byte keeps its value, and nothing but memory changes. No other operation writes a byte of
the program region. -/
def Obligations.LoadRom : Prop :=
  ∀ (p : Params) (bytes : List Byte) (base : Int) (s : State),
    ((s.tickCount ≠ 0 ∨ s.seeded = true) →
      hostStep p (.loadRom bytes base) s = .refused .romLoadAfterFirstTick) ∧
    (s.tickCount = 0 → s.seeded = false → base < 0 ∨ (p.progEnd : Int) < base + bytes.length →
      ∃ a, hostStep p (.loadRom bytes base) s = .next { state := s, reply := .err (.outOfRangeAccess a) } ∧
        (bytes ≠ [] → ∃ i < bytes.length, a = base + i ∧ (a < 0 ∨ (p.progEnd : Int) ≤ a) ∧
          ∀ j < i, 0 ≤ base + j ∧ base + j < p.progEnd)) ∧
    (s.tickCount = 0 → s.seeded = false → 0 ≤ base → base + bytes.length ≤ p.progEnd →
      ∃ m, hostStep p (.loadRom bytes base) s = .next { state := { s with mem := m }, reply := .ok } ∧
        (∀ (i : Nat) (h : i < bytes.length), m.read (base.toNat + i) = bytes[i]) ∧
        ∀ a, a < base.toNat ∨ base.toNat + bytes.length ≤ a → m.read a = s.mem.read a) ∧
    (∀ (op : HostOp) (r : HostResult) (a : Nat), hostStep p op s = .next r → (∀ bytes base, op ≠ .loadRom bytes base) →
      a < p.progEnd → r.state.mem.read a = s.mem.read a)

/-- `timer_tick()` (spec/60_exceptions.md R340): the timer domain's counter advances by one, each timer above 0 counts down
by one, a timer at 0 stays at 0, and nothing else changes. -/
def Obligations.TimerTick : Prop :=
  ∀ (p : Params) (s : State), ∃ dt st,
    hostStep p .timerTick s =
      .next { state := { s with timerTicks := s.timerTicks + 1, dt := dt, st := st }, reply := .none } ∧
    dt.toNat = s.dt.toNat - 1 ∧ st.toNat = s.st.toNat - 1

/-- Independence of the two domains (spec/60_exceptions.md R342): `tick()` neither reads nor writes the timers and their
counter, whatever they hold, and `timer_tick()` neither reads nor writes anything else. -/
def Obligations.TimersAreIndependent : Prop :=
  ∀ (p : Params) (s : State),
    (∀ dt st n, tick p { s with dt := dt, st := st, timerTicks := n } =
      mapNext (fun t => { t with dt := dt, st := st, timerTicks := n }) (tick p s)) ∧
    (∀ t, tick p s = .next t → t.dt = s.dt ∧ t.st = s.st ∧ t.timerTicks = s.timerTicks) ∧
    (∀ u : State, timerTick { u with dt := s.dt, st := s.st, timerTicks := s.timerTicks } =
      { u with dt := (timerTick s).dt, st := (timerTick s).st, timerTicks := (timerTick s).timerTicks })

/-- What the host cannot write (spec/60_exceptions.md R345): apart from ticks and resets, no operation writes `EXT`, `Q`,
`CS`, `TICK` or `FB`; only `resume` writes `SEEDED` and `FAULT`, only `timer_tick` the timer domain's counter, and only
`write` and `load_rom` memory. -/
def Obligations.HostOperationsFrame : Prop :=
  ∀ (p : Params) (op : HostOp) (s : State) (r : HostResult), hostStep p op s = .next r → op ≠ .tick → op ≠ .reset →
    r.state.ext = s.ext ∧ r.state.queue = s.queue ∧ r.state.callStack = s.callStack ∧
    r.state.tickCount = s.tickCount ∧ r.state.fb = s.fb ∧
    (op ≠ .resume → r.state.seeded = s.seeded ∧ r.state.fault = s.fault) ∧
    (op ≠ .timerTick → r.state.timerTicks = s.timerTicks) ∧
    ((∀ a v, op ≠ .write a v) → (∀ bytes base, op ≠ .loadRom bytes base) → r.state.mem = s.mem)

/-- The host's accessors (spec/60_exceptions.md R345, R341, R343, R344), in any state. `get` returns what the name reads as,
`F` and the low half of `AF` masked; `set` writes that name, a pair's two halves and no other cell; a timer or `KEYS` takes
the value set; so each reads back what was set. `PC` and `SP` outside memory are an error with nothing written. `read`
returns the byte at an address of memory, `write` stores a byte in the working region and changes no other byte, and each
returns an error, with nothing written, anywhere else. Every other accessor returns its piece of state and writes
nothing. -/
def Obligations.HostAccessors : Prop :=
  ∀ (p : Params) (s : State),
    (∀ n, hostStep p (.get8 n) s = .next { state := s, reply := .byte (s.cell n) }) ∧
    (∀ n, hostStep p (.get16 n) s = .next { state := s, reply := .word (s.wide n) }) ∧
    (∀ n v, hostStep p (.set8 n v) s = .next { state := s.setCell n v, reply := .ok } ∧
      (s.setCell n v).cell n = (if n = .f then v &&& 0xF0 else v) ∧ ∀ k, k ≠ n → (s.setCell n v).cell k = s.cell k) ∧
    (∀ n v, n = .pc ∨ n = .sp → p.memSize ≤ v.toNat →
      hostStep p (.set16 n v) s = .next { state := s, reply := .err (.outOfRangeAccess v.toNat) }) ∧
    (∀ n v, (n = .pc ∨ n = .sp → v.toNat < p.memSize) →
      hostStep p (.set16 n v) s = .next { state := s.setWide n v, reply := .ok } ∧
      (s.setWide n v).wide n = if n = .af then v &&& 0xFFF0 else v) ∧
    (∀ a : Int, 0 ≤ a → a < p.memSize →
      hostStep p (.read a) s = .next { state := s, reply := .byte (s.mem.read a.toNat) }) ∧
    (∀ a : Int, a < 0 ∨ (p.memSize : Int) ≤ a →
      hostStep p (.read a) s = .next { state := s, reply := .err (.outOfRangeAccess a) }) ∧
    (∀ (a : Int) (v : Byte), 0 ≤ a → a < p.memSize → (p.progEnd : Int) ≤ a →
      ∃ m, hostStep p (.write a v) s = .next { state := { s with mem := m }, reply := .ok } ∧
        StoresAt s.mem m a.toNat v) ∧
    (∀ (a : Int) (v : Byte), a < 0 ∨ (p.memSize : Int) ≤ a ∨ a < p.progEnd →
      hostStep p (.write a v) s = .next { state := s, reply := .err (.outOfRangeAccess a) }) ∧
    (∀ v, hostStep p (.setTimer .dt v) s = .next { state := { s with dt := v }, reply := .none }) ∧
    (∀ v, hostStep p (.setTimer .st v) s = .next { state := { s with st := v }, reply := .none }) ∧
    hostStep p (.getTimer .dt) s = .next { state := s, reply := .timer s.dt } ∧
    hostStep p (.getTimer .st) s = .next { state := s, reply := .timer s.st } ∧
    (∀ m, hostStep p (.setKeys m) s = .next { state := { s with keys := m }, reply := .none }) ∧
    hostStep p .getKeys s = .next { state := s, reply := .keys s.keys } ∧
    hostStep p .soundOn s = .next { state := s, reply := .flag (decide (s.st ≠ 0)) } ∧
    (∀ row col, hostStep p (.readFb row col) s = .next { state := s, reply := .flag (pixel s row col) }) ∧
    hostStep p .callStack s = .next { state := s, reply := .stack s.callStack s.callStack.length } ∧
    hostStep p .tickCount s = .next { state := s, reply := .count s.tickCount } ∧
    hostStep p .fault s = .next { state := s, reply := .latched s.fault }

/-- The tick counter (spec/10_state.md R48, spec/70_reset_and_hazards.md R385): a tick of a core without an error latched
advances it by one, with an error latched it stays, and no operation of the host but `reset`, which writes 0, changes it
otherwise. -/
def Obligations.TickCounter : Prop :=
  ∀ (p : Params) (s : State),
    (∀ t, tick p s = .next t → s.fault = none → t.tickCount = s.tickCount + 1) ∧
    (∀ t, tick p s = .next t → s.fault ≠ none → t.tickCount = s.tickCount) ∧
    (∀ op r, hostStep p op s = .next r → op ≠ .tick → op ≠ .reset → r.state.tickCount = s.tickCount) ∧
    (∀ r, hostStep p .reset s = .next r → r.state.tickCount = 0)

/-- The program region is read-only (spec/20_memory.md R81, R84): no tick, no step and no instruction changes a byte below
`PROG_END`. -/
def Obligations.ProgramRegionIsReadOnly : Prop :=
  (∀ (p : Params) (s t : State) (a : Nat), tick p s = .next t → a < p.progEnd → t.mem.read a = s.mem.read a) ∧
  (∀ (s t : State) (a : Nat), step s = .next t → a < 0x8000 → t.mem.read a = s.mem.read a) ∧
  (∀ (i : Instr) (s t : State) (a : Nat), exec i s = .next t → a < 0x8000 → t.mem.read a = s.mem.read a)

/-! ### The invariant, and steps -/

/-- The state after reset satisfies the invariant of the core, the canonical form of memory (the model's,
assumption log 14) and the list form of the queue (the model's, assumption log 7) among it. -/
def Obligations.ResetSatisfiesInv : Prop := Inv Params.reference State.reset

/-- Every tick keeps the invariant, at every parameter in its range: `PC` and `SP` stay in memory (spec/10_state.md R44),
the low bits of `F` stay 0 (R39), the call stack stays within its capacity (R51), the queue of a running core holds the
instruction in progress and exactly one boundary (spec/40_pipeline.md R177), a faulted core's queue is empty
(spec/60_exceptions.md R326), and memory stays within its size. Two forms in it are the model's: memory's canonical form (assumption log 14) and the
queue as one list in tick order (assumption log 7). -/
def Obligations.TickKeepsInv : Prop :=
  ∀ (p : Params) (s t : State), p.inRange = true → Inv p s → tick p s = .next t → Inv p t

/-- Every step keeps the invariant; a step is the model's unit, a whole instruction at a boundary (assumption log 3), and
the invariant holds two forms of the model's: memory's canonical form (assumption log 14) and the queue as one list in tick
order (assumption log 7). -/
def Obligations.StepKeepsInv : Prop :=
  ∀ s t : State, Inv Params.reference s → step s = .next t → Inv Params.reference t

/-- Every operation of the host keeps the invariant, at every parameter in its range (spec/60_exceptions.md R345); memory's
canonical form (assumption log 14) and the queue as one list in tick order (assumption log 7) are the model's. -/
def Obligations.HostOperationsKeepInv : Prop :=
  ∀ (p : Params) (op : HostOp) (s : State) (r : HostResult), p.inRange = true → Inv p s →
    hostStep p op s = .next r → Inv p r.state

/-- Nothing is stuck (spec/93_implementation_defined.md): every instruction answers a next state in every state, and a step
(the model's unit, assumption log 3) answers one in every state that satisfies the invariant. An error of the spec is a
next state (assumption log 4). -/
def Obligations.NothingIsStuck : Prop :=
  (∀ (i : Instr) (s : State), ∃ t, exec i s = .next t) ∧
  (∀ s : State, Inv Params.reference s → ∃ t, step s = .next t)

/-- A step runs the decoded instruction: at a boundary without an error latched, where the table `EXT` selects has the
instruction `i` at the byte at `PC`, a step is `exec i` and adds nothing to it; between boundaries a step is one tick. The
unit of a step is the model's choice (assumption log 3). -/
def Obligations.StepRunsDecoded : Prop :=
  ∀ s : State, s.fault = none →
    (∀ i, s.atBoundary = true → referenceRom s.ext (s.byteAt 0) = some i → step s = exec i s) ∧
    (s.atBoundary = false → step s = tick Params.reference s)

/-- An unknown opcode (spec/60_exceptions.md R321, spec/30_encoding.md R126): the step latches the byte and its address
before anything is scheduled; `PC` stays at the byte, `EXT` is 0, and the tick counter advances by one. -/
def Obligations.StepOnUnknownOpcode : Prop :=
  ∀ s : State, s.fault = none → s.atBoundary = true → referenceRom s.ext (s.byteAt 0) = none →
    step s = .next (s.errorAt (.unknownOpcode (s.byteAt 0) s.pc) 0)

/-- The prefix (spec/45_system.md R311, spec/30_encoding.md R112, R128): from a boundary at the byte 0xCB of the primary
table, the second step runs the extended instruction of the next byte, or latches that byte, with its own address, as
unknown; so a prefix never chains. -/
def Obligations.PrefixThenExtended : Prop :=
  ∀ s : State, s.fault = none → s.atBoundary = true → s.ext = false → s.byteAt 0 = 0xCB → s.pc.toNat + 1 < 0x10000 →
    ∃ t, t = { s.boundaryAfter 1 4 with ext := true } ∧ step s = .next t ∧
      (∀ i, referenceRom true (s.byteAt 1) = some i → step t = exec i t) ∧
      (0x40 ≤ (s.byteAt 1).toNat → step t = .next (t.errorAt (.unknownOpcode (s.byteAt 1) (s.pc + 1)) 0))

/-- An instruction is its ticks (spec/40_pipeline.md R165, R173, R174): from a boundary whose byte decodes to `i`, the
number of ticks the duration table gives `i` is exactly `exec i`, an error on the way included. -/
def Obligations.BoundaryTicksAreExec : Prop :=
  ∀ (s : State) (i : Instr), s.fault = none → s.atBoundary = true → referenceRom s.ext (s.byteAt 0) = some i →
    ticks Params.reference (Forms.duration i.descriptor s.f) s = exec i s

/-- A step, the model's unit (assumption log 3), is a number of ticks, at least one and at most the 24 of the longest
instruction (spec/40_pipeline.md R164, R173). -/
def Obligations.StepIsTicks : Prop :=
  ∀ s : State, Inv Params.reference s → ∃ n, 1 ≤ n ∧ n ≤ 24 ∧ ticks Params.reference n s = step s

/-- What each instruction may write, over the whole table, an error on the way included: the flags only where R40 of
spec/10_state.md lists the instruction, `SP` only by `LD SP,d16`, `INC SP` and `DEC SP` (R36), the call stack only by `CALL`
and `RET`, the framebuffer only by `CLS` (R58), memory only by `LD (HL),r` and the extended `op (HL)`, and the timers, their
counter and `KEYS` by none (R55 to R57). -/
def Obligations.InstructionFrame : Prop :=
  ∀ (i : Instr) (s t : State), exec i s = .next t →
    ((∀ r, i.descriptor ≠ .inc8 r) → (∀ r, i.descriptor ≠ .dec8 r) → (∀ op r, i.descriptor ≠ .aluR op r) →
      (∀ op, i.descriptor ≠ .aluHL op) → (∀ op, i.descriptor ≠ .aluI op) → (∀ op, i.descriptor ≠ .rotA op) →
      (∀ op r, i.descriptor ≠ .cbR op r) → (∀ op, i.descriptor ≠ .cbHL op) → t.f = s.f) ∧
    (i ≠ .ld_sp_d16 → i ≠ .inc_sp → i ≠ .dec_sp → t.sp = s.sp) ∧
    (i ≠ .call_a16 → i ≠ .ret → t.callStack = s.callStack) ∧
    (i ≠ .cls → t.fb = s.fb) ∧
    ((∀ r, i.descriptor ≠ .stHL r) → (∀ op, i.descriptor ≠ .cbHL op) → t.mem = s.mem) ∧
    t.dt = s.dt ∧ t.st = s.st ∧ t.timerTicks = s.timerTicks ∧ t.keys = s.keys

/-! ### Instructions: the state at the next boundary, and where a form traps

`exec` runs an instruction from a boundary to the next one or to its error (assumption logs 3 and 6).
`boundaryAfter n dur` and `errorAt` say all that changes beside what is written out; every register, flag, latch, timer and
byte of memory not written out keeps its value. -/

/-- `LD rr,d16` (spec/41_loads.md R200): the first byte after the opcode is the high half. -/
def Obligations.LoadPairImmediate : Prop :=
  ∀ (rr : Pair) (s : State), s.fault = none → s.pc.toNat + 3 < 0x10000 →
    exec (Forms.ld16 rr) s =
      .next (({ s with bus := s.pc + 2 }.setPair (Forms.rp rr) s.immediate).boundaryAfter 3 12)

/-- `LD SP,d16` (R201): the latches keep the immediate. -/
def Obligations.LoadStackPointer : Prop :=
  ∀ s : State, s.fault = none → s.pc.toNat + 3 < 0x10000 →
    exec .ld_sp_d16 s =
      .next ({ s with sp := s.immediate, th := s.byteAt 1, tl := s.byteAt 2, bus := s.pc + 2 }.boundaryAfter 3 12)

/-- `LD r,d8` (R202). -/
def Obligations.LoadRegisterImmediate : Prop :=
  ∀ (r : GReg) (s : State), s.fault = none → s.pc.toNat + 2 < 0x10000 →
    exec (Forms.ld8I r) s = .next (({ s with bus := s.pc + 1 }.setReg r (s.byteAt 1)).boundaryAfter 2 8)

/-- `LD r,r'` (R203), a register to itself included. -/
def Obligations.LoadRegisterRegister : Prop :=
  ∀ (r r' : GReg) (s : State), s.fault = none → s.pc.toNat + 1 < 0x10000 →
    exec (Forms.ldRR r r') s = .next ((s.setReg r (s.reg r')).boundaryAfter 1 4)

/-- `LD r,(HL)` (R204): the byte at the old `HL`, also where the destination is `H` or `L`. -/
def Obligations.LoadRegisterMemory : Prop :=
  ∀ (r : GReg) (s : State), s.fault = none → s.pc.toNat + 1 < 0x10000 →
    exec (Forms.ldHL r) s =
      .next (({ s with bus := s.hlWord }.setReg r (s.mem.read s.hlAddress)).boundaryAfter 1 8)

/-- `LD (HL),r` (R205): in the working region the byte at `HL` is stored and every other byte reads as before; in the
program region the store raises at offset 7 and memory is unchanged. -/
def Obligations.StoreRegisterMemory : Prop :=
  ∀ (r : GReg) (s : State), s.fault = none → s.pc.toNat + 1 < 0x10000 →
    (0x8000 ≤ s.hlAddress →
      ∃ m, exec (Forms.stHL r) s = .next ({ s with bus := s.hlWord, mem := m }.boundaryAfter 1 8) ∧
        StoresAt s.mem m s.hlAddress (s.reg r)) ∧
    (s.hlAddress < 0x8000 →
      exec (Forms.stHL r) s =
        .next ({ s with pc := s.pc + 1, bus := s.hlWord }.errorAt (.outOfRangeAccess s.hlAddress) 7))

/-- `INC r` and `DEC r` (spec/42_arith.md R220, R221): the wrapped result, `Z`, `N` and `H` written, `C` kept. -/
def Obligations.IncrementDecrementRegister : Prop :=
  ∀ (r : GReg) (s : State), s.fault = none → s.pc.toNat + 1 < 0x10000 →
    (∃ v f, Inc8Rule (s.reg r).toNat (s.f.getLsbD 4 = true) v f ∧
      exec (Forms.inc8 r) s = .next ({ s.setReg r v with f := f }.boundaryAfter 1 4)) ∧
    (∃ v f, Dec8Rule (s.reg r).toNat (s.f.getLsbD 4 = true) v f ∧
      exec (Forms.dec8 r) s = .next ({ s.setReg r v with f := f }.boundaryAfter 1 4))

/-- `INC rr` and `DEC rr` (R222, R223): the pair or `SP` wraps at 16 bits, and no flag changes. -/
def Obligations.IncrementDecrementPair : Prop :=
  ∀ (rr : Rp) (s : State), s.fault = none → s.pc.toNat + 1 < 0x10000 →
    exec (Forms.inc16 rr) s = .next ((s.setPair rr (s.pair rr + 1)).boundaryAfter 1 8) ∧
    exec (Forms.dec16 rr) s = .next ((s.setPair rr (s.pair rr - 1)).boundaryAfter 1 8)

/-- `ALU A,r` (R224, and R225 to R246): `A` and `F` by the operation's row, the operand any register, `A` included. -/
def Obligations.AluRegister : Prop :=
  ∀ (op : AluOp) (r : GReg) (s : State), s.fault = none → s.pc.toNat + 1 < 0x10000 →
    ∃ a f, AluRule op s.a.toNat (s.reg r).toNat (carryIn s.f) a f ∧
      exec (Forms.aluR op r) s = .next ({ s with a := a, f := f }.boundaryAfter 1 4)

/-- `ALU A,(HL)` (R224, and R226 to R247): the operand is read from either region and stays in `TL`. -/
def Obligations.AluMemory : Prop :=
  ∀ (op : AluOp) (s : State), s.fault = none → s.pc.toNat + 1 < 0x10000 →
    ∃ a f, AluRule op s.a.toNat (s.mem.read s.hlAddress).toNat (carryIn s.f) a f ∧
      exec (Forms.aluHL op) s =
        .next ({ s with a := a, f := f, tl := s.mem.read s.hlAddress, bus := s.hlWord }.boundaryAfter 1 8)

/-- `ALU A,d8` (R224, and R227 to R248): the operand byte stays in `TL`. -/
def Obligations.AluImmediate : Prop :=
  ∀ (op : AluOp) (s : State), s.fault = none → s.pc.toNat + 2 < 0x10000 →
    ∃ a f, AluRule op s.a.toNat (s.byteAt 1).toNat (carryIn s.f) a f ∧
      exec (Forms.aluI op) s =
        .next ({ s with a := a, f := f, tl := s.byteAt 1, bus := s.pc + 1 }.boundaryAfter 2 8)

/-- The accumulator rotates (spec/43_rotate_shift.md R260 to R263): `Z`, `N` and `H` cleared, `C` the bit moved out. -/
def Obligations.RotateAccumulator : Prop :=
  ∀ (op : RotAOp) (s : State), s.fault = none → s.pc.toNat + 1 < 0x10000 →
    ∃ a f, RotARule op s.a.toNat (carryIn s.f) a f ∧
      exec (Forms.rotA op) s = .next ({ s with a := a, f := f }.boundaryAfter 1 4)

/-- The extended operations on a register (R264, and R265 to R279), after the prefix. -/
def Obligations.ExtendedRegister : Prop :=
  ∀ (op : CbOp) (r : GReg) (s : State), s.fault = none → s.pc.toNat + 1 < 0x10000 →
    ∃ v f, CbRule op (s.reg r).toNat (carryIn s.f) v f ∧
      exec (Forms.cbR op r) s = .next ({ s.setReg r v with f := f }.boundaryAfter 1 4)

/-- The extended operations on the byte at `HL` (R264, and R266 to R280), after the prefix: in the working region the
result is stored, and every other byte reads as before; in the program region the store raises at offset 11, when `F` and
`TL` are already written, and memory is unchanged. -/
def Obligations.ExtendedMemory : Prop :=
  ∀ (op : CbOp) (s : State), s.fault = none → s.pc.toNat + 1 < 0x10000 →
    ∃ v f, CbRule op (s.mem.read s.hlAddress).toNat (carryIn s.f) v f ∧
      (0x8000 ≤ s.hlAddress →
        ∃ m, exec (Forms.cbHL op) s =
            .next ({ s with f := f, tl := v, bus := s.hlWord, mem := m }.boundaryAfter 1 12) ∧
          StoresAt s.mem m s.hlAddress v) ∧
      (s.hlAddress < 0x8000 →
        exec (Forms.cbHL op) s =
          .next ({ s with pc := s.pc + 1, f := f, tl := v, bus := s.hlWord }.errorAt
            (.outOfRangeAccess s.hlAddress) 11))

/-- `JR e8` (spec/44_control.md R291): the target is the address after the instruction plus the signed displacement; outside
memory it raises at offset 11, `PC` being past the instruction. -/
def Obligations.JumpRelative : Prop :=
  ∀ s : State, s.fault = none → s.pc.toNat + 2 < 0x10000 →
    (∀ w : Word, (w.toNat : Int) = s.jumpTarget →
      exec .jr_e8 s = .next { { s with tl := s.byteAt 1, bus := s.pc + 1 }.boundaryAfter 2 12 with pc := w }) ∧
    (s.jumpTarget < 0 ∨ 0x10000 ≤ s.jumpTarget →
      exec .jr_e8 s = .next ({ s with pc := s.pc + 2, tl := s.byteAt 1, bus := s.pc + 1 }.errorAt
        (.outOfRangeAccess s.jumpTarget) 11))

/-- `JR cc,e8` (R292 to R295, spec/30_encoding.md R118): taken when the condition holds at the fetch, as `JR e8`; not taken,
the displacement is read all the same and `PC` passes the instruction in 8 ticks. -/
def Obligations.JumpConditional : Prop :=
  ∀ (cc : Cc) (s : State), s.fault = none → s.pc.toNat + 2 < 0x10000 →
    (∀ w : Word, CcRule cc s.f → (w.toNat : Int) = s.jumpTarget →
      exec (Forms.jrCC cc) s =
        .next { { s with tl := s.byteAt 1, bus := s.pc + 1 }.boundaryAfter 2 12 with pc := w }) ∧
    (CcRule cc s.f → s.jumpTarget < 0 ∨ 0x10000 ≤ s.jumpTarget →
      exec (Forms.jrCC cc) s = .next ({ s with pc := s.pc + 2, tl := s.byteAt 1, bus := s.pc + 1 }.errorAt
        (.outOfRangeAccess s.jumpTarget) 11)) ∧
    (¬CcRule cc s.f →
      exec (Forms.jrCC cc) s = .next ({ s with tl := s.byteAt 1, bus := s.pc + 1 }.boundaryAfter 2 8))

/-- `JP a16` (R298): the high byte of the address comes first; the latches keep it. -/
def Obligations.JumpAbsolute : Prop :=
  ∀ s : State, s.fault = none → s.pc.toNat + 3 < 0x10000 →
    exec .jp_a16 s =
      .next { { s with th := s.byteAt 1, tl := s.byteAt 2, bus := s.pc + 2 }.boundaryAfter 3 16 with
        pc := s.immediate }

/-- `CALL a16` (R299): the address after the instruction is pushed on the call stack, not in memory and not by `SP`; at
capacity the push raises at offset 19 and the jump does not happen. -/
def Obligations.CallSubroutine : Prop :=
  ∀ s : State, s.fault = none → s.pc.toNat + 3 < 0x10000 →
    (s.callStack.length < 16 →
      exec .call_a16 s =
        .next { { s with th := s.byteAt 1, tl := s.byteAt 2, bus := s.pc + 2,
                         callStack := s.callStack ++ [s.pc + 3] }.boundaryAfter 3 24 with pc := s.immediate }) ∧
    (s.callStack.length = 16 →
      exec .call_a16 s =
        .next ({ s with pc := s.pc + 3, th := s.byteAt 1, tl := s.byteAt 2, bus := s.pc + 2 }.errorAt
          .callStackOverflow 19))

/-- `RET` (R300): `PC` takes the top of the call stack; with none the pop raises at offset 15 and `PC` stays past the
instruction. -/
def Obligations.ReturnFromSubroutine : Prop :=
  ∀ s : State, s.fault = none → s.pc.toNat + 1 < 0x10000 →
    (∀ rest t, s.callStack = rest ++ [t] →
      exec .ret s = .next { { s with callStack := rest }.boundaryAfter 1 16 with pc := t }) ∧
    (s.callStack = [] → exec .ret s = .next ({ s with pc := s.pc + 1 }.errorAt .callStackUnderflow 15))

/-- A call and the return from it (spec/44_control.md R301): `PC` comes back to the address after the call, with the call
stack as it was. The subroutine here is the return alone. -/
def Obligations.CallThenReturn : Prop :=
  ∀ s : State, s.fault = none → s.pc.toNat + 3 < 0x10000 → s.callStack.length < 16 → s.immediate ≠ 0xFFFF →
    ∃ t u, exec .call_a16 s = .next t ∧ t.pc = s.immediate ∧ exec .ret t = .next u ∧ u.pc = s.pc + 3 ∧
      u.callStack = s.callStack ∧ u.fault = none

/-- `NOP`, the prefix and `CLS` (spec/45_system.md R310 to R312): nothing but the advance; `EXT` set; every pixel 0. -/
def Obligations.SystemInstructions : Prop :=
  ∀ s : State, s.fault = none → s.pc.toNat + 1 < 0x10000 →
    exec .nop s = .next (s.boundaryAfter 1 4) ∧
    exec .prefixCB s = .next { s.boundaryAfter 1 4 with ext := true } ∧
    ∃ t, exec .cls s = .next t ∧ (∀ row col, pixel t row col = false) ∧ t = { s.boundaryAfter 1 4 with fb := t.fb }

/-- The top of memory (spec/40_pipeline.md R155, spec/41_loads.md R200): an instruction whose increment of `PC` would reach
the size of memory raises at that increment, at offset 1, 5 or 9, and keeps what it wrote before it. -/
def Obligations.TopOfMemory : Prop :=
  ∀ (i : Instr) (s : State), s.fault = none →
    (s.pc = 0xFFFF →
      exec i s = .next { s.errorAt (.outOfRangeAccess 0x10000) 1 with ext := decide (i = .prefixCB) }) ∧
    (1 ≤ i.descriptor.operandBytes → s.pc = 0xFFFE →
      exec i s = .next ({ s with pc := 0xFFFF, bus := 0xFFFF }.errorAt (.outOfRangeAccess 0x10000) 5)) ∧
    (∀ rr, i = Forms.ld16 rr → s.pc = 0xFFFD →
      exec i s = .next (({ s with pc := 0xFFFF, bus := 0xFFFF }.setPair (Forms.rp rr)
        (s.mem.read 0xFFFE ++ (s.pair (Forms.rp rr)).extractLsb' 0 8)).errorAt (.outOfRangeAccess 0x10000) 9)) ∧
    (i = .ld_sp_d16 ∨ i = .jp_a16 ∨ i = .call_a16 → s.pc = 0xFFFD →
      exec i s = .next ({ s with pc := 0xFFFF, bus := 0xFFFF, th := s.mem.read 0xFFFE }.errorAt
        (.outOfRangeAccess 0x10000) 9))
end

