-- ==== Sys2Proof/Laws/Launch.lean ====
section
/-! SUPPORT. What constructing a core can answer, and that a run of an ill-formed decode ROM or of a parameter out of range
is refused before its first tick (spec/30_encoding.md R113, spec/60_exceptions.md R335). -/

namespace Sys2Proof.Machine

/-- Construction answers the power-on state of well-formed parameters, and otherwise says what it refuses. -/
theorem construct_cases (p : Params) :
    (p.inRange = true ∧ romWellFormed p = true ∧ construct p = .next (State.powerOn p)) ∨
      (p.inRange = true ∧ romWellFormed p = false ∧ construct p = .refused .illFormedRom) ∨
      (p.inRange = false ∧ construct p = .refused .parameterOutOfRange) := by
  unfold construct
  cases p.inRange <;> cases romWellFormed p <;> simp

/-- What construction refuses is a refused launch, whatever the image and the budget. -/
theorem launch_of_construct_refused {p : Params} {r : Refusal} (h : construct p = .refused r) (image : List Byte)
    (base : Int) (n : Nat) : launch p image base n = .refused r := by
  simp only [launch, h]

/-- What construction refuses is a refused run under any host. -/
theorem runFromConstruction_of_construct_refused {p : Params} {r : Refusal} (h : construct p = .refused r)
    (ops : List HostOp) : runFromConstruction p ops = .refused r := by
  simp only [runFromConstruction, h]

/-- A launch whose decode ROM breaks R113 is refused. -/
theorem launch_illFormedRom {p : Params} (hp : p.inRange = true) (h : romWellFormed p = false) (image : List Byte)
    (base : Int) (n : Nat) : launch p image base n = .refused .illFormedRom :=
  launch_of_construct_refused (by simp [construct, hp, h]) image base n

/-- A load into a core just constructed is never refused: it returns (spec/20_memory.md R98). -/
theorem loadRom_powerOn (p : Params) (image : List Byte) (base : Int) :
    ∃ r, loadRom p image base (State.powerOn p) = .next r := by
  have h : ¬((State.powerOn p).tickCount ≠ 0 ∨ (State.powerOn p).seeded = true) := by simp [State.powerOn]
  simp only [loadRom, if_neg h]
  split <;> exact ⟨_, rfl⟩

end Sys2Proof.Machine
end

