-- ==== Sys2Proof/Laws/Memory.lean ====
section
/-! SUPPORT. The laws of the memory: a read after a write, every other address unchanged, the canonical form kept, and
what a write may list. -/

namespace Sys2Proof.Machine

/-! ### Reads -/

theorem Memory.read_erase (m : Memory) (a b : Nat) :
    (m.erase a).read b = if b = a then Memory.unlisted else m.read b := by
  induction m with
  | nil => simp [Memory.erase, Memory.read]
  | cons c m ih =>
    obtain ⟨k, x⟩ := c
    by_cases hk : k = a
    · subst hk
      simp only [Memory.erase, if_true, ih, Memory.read]
      by_cases hb : b = k
      · simp [hb]
      · simp [hb, Ne.symm hb]
    · simp only [Memory.erase, hk, if_false, Memory.read, ih]
      by_cases hb : b = a
      · subst hb; simp [hk]
      · simp [hb]

theorem Memory.read_insert (m : Memory) (a b : Nat) (v : Byte) (h : m.read a = Memory.unlisted)
    (hm : ∀ c ∈ m, c.1 ≠ a) : (m.insert a v).read b = if b = a then v else m.read b := by
  induction m with
  | nil => simp [Memory.insert, Memory.read, eq_comm]
  | cons c m ih =>
    obtain ⟨k, x⟩ := c
    have hk : k ≠ a := hm (k, x) (by simp)
    have hrest : Memory.read m a = Memory.unlisted := by simpa [Memory.read, hk] using h
    have ih' := ih hrest fun c hc => hm c (by simp [hc])
    by_cases hlt : a < k
    · simp [Memory.insert, hlt, Memory.read, eq_comm]
    · simp only [Memory.insert, hlt, if_false, Memory.read, ih']
      by_cases hb : b = a
      · subst hb; simp [hk]
      · simp [hb]

theorem Memory.mem_erase {m : Memory} {a : Nat} {c : Host.Cell} (h : c ∈ m.erase a) : c ∈ m ∧ c.1 ≠ a := by
  induction m with
  | nil => simp [Memory.erase] at h
  | cons d m ih =>
    obtain ⟨k, x⟩ := d
    by_cases hk : k = a
    · simp only [Memory.erase, hk, if_true] at h
      exact ⟨by simp [(ih h).1], (ih h).2⟩
    · simp only [Memory.erase, hk, if_false, List.mem_cons] at h
      rcases h with rfl | h
      · exact ⟨by simp, hk⟩
      · exact ⟨by simp [(ih h).1], (ih h).2⟩

/-- A read after a write to the same place gives the value written; a write leaves every other place alone. It holds of
every list, canonical or not. -/
theorem Memory.read_write (m : Memory) (a b : Nat) (v : Byte) :
    (m.write a v).read b = if b = a then v else m.read b := by
  unfold Memory.write
  by_cases hv : v = Memory.unlisted
  · simp [hv, Memory.read_erase]
  · rw [if_neg hv, Memory.read_insert]
    · by_cases hb : b = a <;> simp [hb, Memory.read_erase]
    · simp [Memory.read_erase]
    · exact fun c hc => (Memory.mem_erase hc).2

@[simp] theorem Memory.read_write_same (m : Memory) (a : Nat) (v : Byte) : (m.write a v).read a = v := by
  simp [Memory.read_write]

theorem Memory.read_write_other (m : Memory) {a b : Nat} (v : Byte) (h : b ≠ a) :
    (m.write a v).read b = m.read b := by
  simp [Memory.read_write, h]

/-! ### The canonical form -/

theorem Memory.mem_insert {m : Memory} {a : Nat} {v : Byte} {c : Host.Cell} (h : c ∈ m.insert a v) :
    c = (a, v) ∨ c ∈ m := by
  induction m with
  | nil => simpa [Memory.insert] using h
  | cons d m ih =>
    obtain ⟨k, x⟩ := d
    by_cases hlt : a < k
    · simpa [Memory.insert, hlt] using h
    · simp only [Memory.insert, hlt, if_false, List.mem_cons] at h
      rcases h with rfl | h
      · simp
      · rcases ih h with h | h <;> simp [h]

/-- Every entry after a write is the byte written or was there before. -/
theorem Memory.mem_write {m : Memory} {a : Nat} {v : Byte} {c : Host.Cell} (h : c ∈ m.write a v) :
    c = (a, v) ∨ c ∈ m := by
  unfold Memory.write at h
  split at h
  · exact .inr (Memory.mem_erase h).1
  · rcases Memory.mem_insert h with h | h
    · exact .inl h
    · exact .inr (Memory.mem_erase h).1

theorem Memory.above_iff (a : Nat) (m : Memory) : Memory.above a m = true ↔ ∀ c ∈ m, a < c.1 := by
  simp [Memory.above, List.all_eq_true]

theorem Memory.wf_cons (k : Nat) (x : Byte) (m : Memory) :
    Memory.wf ((k, x) :: m) = true ↔ (∀ c ∈ m, k < c.1) ∧ x ≠ Memory.unlisted ∧ Memory.wf m = true := by
  simp [Memory.wf, Memory.above, List.all_eq_true, and_assoc]

theorem Memory.wf_erase {m : Memory} (a : Nat) (h : m.wf = true) : (m.erase a).wf = true := by
  induction m with
  | nil => rfl
  | cons c m ih =>
    obtain ⟨k, x⟩ := c
    obtain ⟨h1, h2, h3⟩ := (Memory.wf_cons k x m).1 h
    by_cases hk : k = a
    · simpa [Memory.erase, hk] using ih h3
    · simp only [Memory.erase, hk, if_false]
      exact (Memory.wf_cons _ _ _).2 ⟨fun c hc => h1 c (Memory.mem_erase hc).1, h2, ih h3⟩

theorem Memory.wf_insert {m : Memory} {a : Nat} {v : Byte} (h : m.wf = true) (hv : v ≠ Memory.unlisted)
    (ha : ∀ c ∈ m, c.1 ≠ a) : (m.insert a v).wf = true := by
  induction m with
  | nil => simp [Memory.insert, Memory.wf, Memory.above, hv]
  | cons c m ih =>
    obtain ⟨k, x⟩ := c
    obtain ⟨h1, h2, h3⟩ := (Memory.wf_cons k x m).1 h
    have hka : k ≠ a := ha (k, x) (by simp)
    by_cases hlt : a < k
    · simp only [Memory.insert, hlt, if_true]
      refine (Memory.wf_cons _ _ _).2 ⟨fun c hc => ?_, hv, h⟩
      rcases List.mem_cons.1 hc with rfl | hc
      · exact hlt
      · exact Nat.lt_trans hlt (h1 c hc)
    · simp only [Memory.insert, hlt, if_false]
      refine (Memory.wf_cons _ _ _).2 ⟨fun c hc => ?_, h2, ih h3 fun c hc => ha c (by simp [hc])⟩
      rcases Memory.mem_insert hc with rfl | hc
      · exact Nat.lt_of_le_of_ne (Nat.le_of_not_lt hlt) hka
      · exact h1 c hc

/-- A write keeps the canonical form. -/
theorem Memory.wf_write {m : Memory} (a : Nat) (v : Byte) (h : m.wf = true) : (m.write a v).wf = true := by
  unfold Memory.write
  split
  · exact Memory.wf_erase a h
  · next hv => exact Memory.wf_insert (Memory.wf_erase a h) hv fun c hc => (Memory.mem_erase hc).2

/-- Storing a sequence of bytes keeps the canonical form. -/
theorem Memory.wf_writeBytes {m : Memory} (a : Nat) (vs : List Byte) (h : m.wf = true) :
    (m.writeBytes a vs).wf = true := by
  induction vs generalizing m a with
  | nil => exact h
  | cons v vs ih => exact ih (a + 1) (Memory.wf_write a v h)

/-- Every entry after storing a sequence lies in the sequence's addresses or was there before. -/
theorem Memory.mem_writeBytes {m : Memory} {a : Nat} {vs : List Byte} {c : Host.Cell}
    (h : c ∈ m.writeBytes a vs) : (a ≤ c.1 ∧ c.1 < a + vs.length) ∨ c ∈ m := by
  induction vs generalizing m a with
  | nil => exact .inr h
  | cons v vs ih =>
    rcases ih h with ⟨h1, h2⟩ | h
    · exact .inl ⟨by omega, by simp only [List.length_cons]; omega⟩
    · rcases Memory.mem_write h with rfl | h
      · exact .inl ⟨Nat.le_refl _, by simp⟩
      · exact .inr h

/-- Storing a sequence leaves every address outside it alone. -/
theorem Memory.read_writeBytes_other {m : Memory} {a b : Nat} {vs : List Byte} (h : b < a ∨ a + vs.length ≤ b) :
    (m.writeBytes a vs).read b = m.read b := by
  induction vs generalizing m a with
  | nil => rfl
  | cons v vs ih =>
    simp only [List.length_cons] at h
    rw [Memory.writeBytes, ih (by omega), Memory.read_write_other _ _ (by omega)]

end Sys2Proof.Machine
end

