-- ==== Sys2Proof/Laws/State.lean ====
section
/-! SUPPORT. What each named update of the state leaves in each field, one lemma per field per update, so that no later
proof unfolds a record update. -/

namespace Sys2Proof.Machine

variable (s : State) (v : Byte)

/-! ### `writeReg8` -/

@[simp] theorem writeReg8_at_a : writeReg8 .a v s = { s with a := v } := rfl
@[simp] theorem writeReg8_at_b : writeReg8 .b v s = { s with b := v } := rfl
@[simp] theorem writeReg8_at_c : writeReg8 .c v s = { s with c := v } := rfl
@[simp] theorem writeReg8_at_d : writeReg8 .d v s = { s with d := v } := rfl
@[simp] theorem writeReg8_at_e : writeReg8 .e v s = { s with e := v } := rfl
@[simp] theorem writeReg8_at_h : writeReg8 .h v s = { s with h := v } := rfl
@[simp] theorem writeReg8_at_l : writeReg8 .l v s = { s with l := v } := rfl
@[simp] theorem writeReg8_at_th : writeReg8 .th v s = { s with th := v } := rfl
@[simp] theorem writeReg8_at_tl : writeReg8 .tl v s = { s with tl := v } := rfl
@[simp] theorem writeReg8_at_f : writeReg8 .f v s = { s with f := maskF v } := rfl

@[simp] theorem writeReg8_pc (n : Reg8) : (writeReg8 n v s).pc = s.pc := by cases n <;> rfl
@[simp] theorem writeReg8_sp (n : Reg8) : (writeReg8 n v s).sp = s.sp := by cases n <;> rfl
@[simp] theorem writeReg8_bus (n : Reg8) : (writeReg8 n v s).bus = s.bus := by cases n <;> rfl
@[simp] theorem writeReg8_ext (n : Reg8) : (writeReg8 n v s).ext = s.ext := by cases n <;> rfl
@[simp] theorem writeReg8_seeded (n : Reg8) : (writeReg8 n v s).seeded = s.seeded := by cases n <;> rfl
@[simp] theorem writeReg8_fault (n : Reg8) : (writeReg8 n v s).fault = s.fault := by cases n <;> rfl
@[simp] theorem writeReg8_tickCount (n : Reg8) : (writeReg8 n v s).tickCount = s.tickCount := by cases n <;> rfl
@[simp] theorem writeReg8_queue (n : Reg8) : (writeReg8 n v s).queue = s.queue := by cases n <;> rfl
@[simp] theorem writeReg8_callStack (n : Reg8) : (writeReg8 n v s).callStack = s.callStack := by cases n <;> rfl
@[simp] theorem writeReg8_mem (n : Reg8) : (writeReg8 n v s).mem = s.mem := by cases n <;> rfl
@[simp] theorem writeReg8_dt (n : Reg8) : (writeReg8 n v s).dt = s.dt := by cases n <;> rfl
@[simp] theorem writeReg8_st (n : Reg8) : (writeReg8 n v s).st = s.st := by cases n <;> rfl
@[simp] theorem writeReg8_timerTicks (n : Reg8) : (writeReg8 n v s).timerTicks = s.timerTicks := by cases n <;> rfl
@[simp] theorem writeReg8_keys (n : Reg8) : (writeReg8 n v s).keys = s.keys := by cases n <;> rfl
@[simp] theorem writeReg8_fb (n : Reg8) : (writeReg8 n v s).fb = s.fb := by cases n <;> rfl

/-! ### `writeResult` -/

@[simp] theorem writeResult_pc (n : Reg8) (r : ByteResult) : (writeResult n r s).pc = s.pc := by
  cases n <;> rfl
@[simp] theorem writeResult_sp (n : Reg8) (r : ByteResult) : (writeResult n r s).sp = s.sp := by
  cases n <;> rfl
@[simp] theorem writeResult_bus (n : Reg8) (r : ByteResult) : (writeResult n r s).bus = s.bus := by
  cases n <;> rfl
@[simp] theorem writeResult_ext (n : Reg8) (r : ByteResult) : (writeResult n r s).ext = s.ext := by
  cases n <;> rfl
@[simp] theorem writeResult_seeded (n : Reg8) (r : ByteResult) : (writeResult n r s).seeded = s.seeded := by
  cases n <;> rfl
@[simp] theorem writeResult_fault (n : Reg8) (r : ByteResult) : (writeResult n r s).fault = s.fault := by
  cases n <;> rfl
@[simp] theorem writeResult_tickCount (n : Reg8) (r : ByteResult) : (writeResult n r s).tickCount = s.tickCount := by
  cases n <;> rfl
@[simp] theorem writeResult_queue (n : Reg8) (r : ByteResult) : (writeResult n r s).queue = s.queue := by
  cases n <;> rfl
@[simp] theorem writeResult_callStack (n : Reg8) (r : ByteResult) : (writeResult n r s).callStack = s.callStack := by
  cases n <;> rfl
@[simp] theorem writeResult_mem (n : Reg8) (r : ByteResult) : (writeResult n r s).mem = s.mem := by
  cases n <;> rfl
@[simp] theorem writeResult_dt (n : Reg8) (r : ByteResult) : (writeResult n r s).dt = s.dt := by
  cases n <;> rfl
@[simp] theorem writeResult_st (n : Reg8) (r : ByteResult) : (writeResult n r s).st = s.st := by
  cases n <;> rfl
@[simp] theorem writeResult_timerTicks (n : Reg8) (r : ByteResult) : (writeResult n r s).timerTicks = s.timerTicks := by
  cases n <;> rfl
@[simp] theorem writeResult_keys (n : Reg8) (r : ByteResult) : (writeResult n r s).keys = s.keys := by
  cases n <;> rfl
@[simp] theorem writeResult_fb (n : Reg8) (r : ByteResult) : (writeResult n r s).fb = s.fb := by
  cases n <;> rfl

/-! ### `takeError` -/

@[simp] theorem takeError_a (e : CoreError) : (takeError e s).a = s.a := rfl
@[simp] theorem takeError_f (e : CoreError) : (takeError e s).f = s.f := rfl
@[simp] theorem takeError_b (e : CoreError) : (takeError e s).b = s.b := rfl
@[simp] theorem takeError_c (e : CoreError) : (takeError e s).c = s.c := rfl
@[simp] theorem takeError_d (e : CoreError) : (takeError e s).d = s.d := rfl
@[simp] theorem takeError_e (e : CoreError) : (takeError e s).e = s.e := rfl
@[simp] theorem takeError_h (e : CoreError) : (takeError e s).h = s.h := rfl
@[simp] theorem takeError_l (e : CoreError) : (takeError e s).l = s.l := rfl
@[simp] theorem takeError_th (e : CoreError) : (takeError e s).th = s.th := rfl
@[simp] theorem takeError_tl (e : CoreError) : (takeError e s).tl = s.tl := rfl
@[simp] theorem takeError_pc (e : CoreError) : (takeError e s).pc = s.pc := rfl
@[simp] theorem takeError_sp (e : CoreError) : (takeError e s).sp = s.sp := rfl
@[simp] theorem takeError_bus (e : CoreError) : (takeError e s).bus = s.bus := rfl
@[simp] theorem takeError_ext (e : CoreError) : (takeError e s).ext = s.ext := rfl
@[simp] theorem takeError_seeded (e : CoreError) : (takeError e s).seeded = s.seeded := rfl
@[simp] theorem takeError_fault (e : CoreError) : (takeError e s).fault = some e := rfl
@[simp] theorem takeError_tickCount (e : CoreError) : (takeError e s).tickCount = s.tickCount + 1 := rfl
@[simp] theorem takeError_queue (e : CoreError) : (takeError e s).queue = [] := rfl
@[simp] theorem takeError_callStack (e : CoreError) : (takeError e s).callStack = s.callStack := rfl
@[simp] theorem takeError_mem (e : CoreError) : (takeError e s).mem = s.mem := rfl
@[simp] theorem takeError_dt (e : CoreError) : (takeError e s).dt = s.dt := rfl
@[simp] theorem takeError_st (e : CoreError) : (takeError e s).st = s.st := rfl
@[simp] theorem takeError_timerTicks (e : CoreError) : (takeError e s).timerTicks = s.timerTicks := rfl
@[simp] theorem takeError_keys (e : CoreError) : (takeError e s).keys = s.keys := rfl
@[simp] theorem takeError_fb (e : CoreError) : (takeError e s).fb = s.fb := rfl

/-! ### `issue` -/

@[simp] theorem issue_a (d : Descriptor) : (issue d s).a = s.a := rfl
@[simp] theorem issue_f (d : Descriptor) : (issue d s).f = s.f := rfl
@[simp] theorem issue_b (d : Descriptor) : (issue d s).b = s.b := rfl
@[simp] theorem issue_c (d : Descriptor) : (issue d s).c = s.c := rfl
@[simp] theorem issue_d (d : Descriptor) : (issue d s).d = s.d := rfl
@[simp] theorem issue_e (d : Descriptor) : (issue d s).e = s.e := rfl
@[simp] theorem issue_h (d : Descriptor) : (issue d s).h = s.h := rfl
@[simp] theorem issue_l (d : Descriptor) : (issue d s).l = s.l := rfl
@[simp] theorem issue_th (d : Descriptor) : (issue d s).th = s.th := rfl
@[simp] theorem issue_tl (d : Descriptor) : (issue d s).tl = s.tl := rfl
@[simp] theorem issue_pc (d : Descriptor) : (issue d s).pc = s.pc := rfl
@[simp] theorem issue_sp (d : Descriptor) : (issue d s).sp = s.sp := rfl
@[simp] theorem issue_bus (d : Descriptor) : (issue d s).bus = s.bus := rfl
@[simp] theorem issue_ext (d : Descriptor) : (issue d s).ext = decide (d = .prefixCB) := rfl
@[simp] theorem issue_seeded (d : Descriptor) : (issue d s).seeded = s.seeded := rfl
@[simp] theorem issue_fault (d : Descriptor) : (issue d s).fault = s.fault := rfl
@[simp] theorem issue_tickCount (d : Descriptor) : (issue d s).tickCount = s.tickCount := rfl
@[simp] theorem issue_queue (d : Descriptor) : (issue d s).queue = schedule (s.tickCount + (plan d s).dur) (.effect .fde)
      (scheduleAll s.tickCount (plan d s).ops (schedule (s.tickCount + 1) (.effect .incPC) s.queue)) := rfl
@[simp] theorem issue_callStack (d : Descriptor) : (issue d s).callStack = s.callStack := rfl
@[simp] theorem issue_mem (d : Descriptor) : (issue d s).mem = s.mem := rfl
@[simp] theorem issue_dt (d : Descriptor) : (issue d s).dt = s.dt := rfl
@[simp] theorem issue_st (d : Descriptor) : (issue d s).st = s.st := rfl
@[simp] theorem issue_timerTicks (d : Descriptor) : (issue d s).timerTicks = s.timerTicks := rfl
@[simp] theorem issue_keys (d : Descriptor) : (issue d s).keys = s.keys := rfl
@[simp] theorem issue_fb (d : Descriptor) : (issue d s).fb = s.fb := rfl

/-! ### `clearFB` -/

@[simp] theorem clearFB_a : (clearFB s).a = s.a := rfl
@[simp] theorem clearFB_f : (clearFB s).f = s.f := rfl
@[simp] theorem clearFB_b : (clearFB s).b = s.b := rfl
@[simp] theorem clearFB_c : (clearFB s).c = s.c := rfl
@[simp] theorem clearFB_d : (clearFB s).d = s.d := rfl
@[simp] theorem clearFB_e : (clearFB s).e = s.e := rfl
@[simp] theorem clearFB_h : (clearFB s).h = s.h := rfl
@[simp] theorem clearFB_l : (clearFB s).l = s.l := rfl
@[simp] theorem clearFB_th : (clearFB s).th = s.th := rfl
@[simp] theorem clearFB_tl : (clearFB s).tl = s.tl := rfl
@[simp] theorem clearFB_pc : (clearFB s).pc = s.pc := rfl
@[simp] theorem clearFB_sp : (clearFB s).sp = s.sp := rfl
@[simp] theorem clearFB_bus : (clearFB s).bus = s.bus := rfl
@[simp] theorem clearFB_ext : (clearFB s).ext = s.ext := rfl
@[simp] theorem clearFB_seeded : (clearFB s).seeded = s.seeded := rfl
@[simp] theorem clearFB_fault : (clearFB s).fault = s.fault := rfl
@[simp] theorem clearFB_tickCount : (clearFB s).tickCount = s.tickCount := rfl
@[simp] theorem clearFB_queue : (clearFB s).queue = s.queue := rfl
@[simp] theorem clearFB_callStack : (clearFB s).callStack = s.callStack := rfl
@[simp] theorem clearFB_mem : (clearFB s).mem = s.mem := rfl
@[simp] theorem clearFB_dt : (clearFB s).dt = s.dt := rfl
@[simp] theorem clearFB_st : (clearFB s).st = s.st := rfl
@[simp] theorem clearFB_timerTicks : (clearFB s).timerTicks = s.timerTicks := rfl
@[simp] theorem clearFB_keys : (clearFB s).keys = s.keys := rfl
@[simp] theorem clearFB_fb : (clearFB s).fb = FrameBuffer.clear := rfl

/-! ### `timerTick` -/

@[simp] theorem timerTick_a : (timerTick s).a = s.a := rfl
@[simp] theorem timerTick_f : (timerTick s).f = s.f := rfl
@[simp] theorem timerTick_b : (timerTick s).b = s.b := rfl
@[simp] theorem timerTick_c : (timerTick s).c = s.c := rfl
@[simp] theorem timerTick_d : (timerTick s).d = s.d := rfl
@[simp] theorem timerTick_e : (timerTick s).e = s.e := rfl
@[simp] theorem timerTick_h : (timerTick s).h = s.h := rfl
@[simp] theorem timerTick_l : (timerTick s).l = s.l := rfl
@[simp] theorem timerTick_th : (timerTick s).th = s.th := rfl
@[simp] theorem timerTick_tl : (timerTick s).tl = s.tl := rfl
@[simp] theorem timerTick_pc : (timerTick s).pc = s.pc := rfl
@[simp] theorem timerTick_sp : (timerTick s).sp = s.sp := rfl
@[simp] theorem timerTick_bus : (timerTick s).bus = s.bus := rfl
@[simp] theorem timerTick_ext : (timerTick s).ext = s.ext := rfl
@[simp] theorem timerTick_seeded : (timerTick s).seeded = s.seeded := rfl
@[simp] theorem timerTick_fault : (timerTick s).fault = s.fault := rfl
@[simp] theorem timerTick_tickCount : (timerTick s).tickCount = s.tickCount := rfl
@[simp] theorem timerTick_queue : (timerTick s).queue = s.queue := rfl
@[simp] theorem timerTick_callStack : (timerTick s).callStack = s.callStack := rfl
@[simp] theorem timerTick_mem : (timerTick s).mem = s.mem := rfl
@[simp] theorem timerTick_dt : (timerTick s).dt = if s.dt = 0 then 0 else s.dt - 1 := rfl
@[simp] theorem timerTick_st : (timerTick s).st = if s.st = 0 then 0 else s.st - 1 := rfl
@[simp] theorem timerTick_timerTicks : (timerTick s).timerTicks = s.timerTicks + 1 := rfl
@[simp] theorem timerTick_keys : (timerTick s).keys = s.keys := rfl
@[simp] theorem timerTick_fb : (timerTick s).fb = s.fb := rfl

/-! ### `resetCore` -/

@[simp] theorem resetCore_a (p : Params) : (resetCore p s).a = (State.powerOn p).a := rfl
@[simp] theorem resetCore_f (p : Params) : (resetCore p s).f = (State.powerOn p).f := rfl
@[simp] theorem resetCore_b (p : Params) : (resetCore p s).b = (State.powerOn p).b := rfl
@[simp] theorem resetCore_c (p : Params) : (resetCore p s).c = (State.powerOn p).c := rfl
@[simp] theorem resetCore_d (p : Params) : (resetCore p s).d = (State.powerOn p).d := rfl
@[simp] theorem resetCore_e (p : Params) : (resetCore p s).e = (State.powerOn p).e := rfl
@[simp] theorem resetCore_h (p : Params) : (resetCore p s).h = (State.powerOn p).h := rfl
@[simp] theorem resetCore_l (p : Params) : (resetCore p s).l = (State.powerOn p).l := rfl
@[simp] theorem resetCore_th (p : Params) : (resetCore p s).th = (State.powerOn p).th := rfl
@[simp] theorem resetCore_tl (p : Params) : (resetCore p s).tl = (State.powerOn p).tl := rfl
@[simp] theorem resetCore_pc (p : Params) : (resetCore p s).pc = (State.powerOn p).pc := rfl
@[simp] theorem resetCore_sp (p : Params) : (resetCore p s).sp = (State.powerOn p).sp := rfl
@[simp] theorem resetCore_bus (p : Params) : (resetCore p s).bus = (State.powerOn p).bus := rfl
@[simp] theorem resetCore_ext (p : Params) : (resetCore p s).ext = (State.powerOn p).ext := rfl
@[simp] theorem resetCore_seeded (p : Params) : (resetCore p s).seeded = (State.powerOn p).seeded := rfl
@[simp] theorem resetCore_fault (p : Params) : (resetCore p s).fault = (State.powerOn p).fault := rfl
@[simp] theorem resetCore_tickCount (p : Params) : (resetCore p s).tickCount = (State.powerOn p).tickCount := rfl
@[simp] theorem resetCore_queue (p : Params) : (resetCore p s).queue = (State.powerOn p).queue := rfl
@[simp] theorem resetCore_callStack (p : Params) : (resetCore p s).callStack = (State.powerOn p).callStack := rfl
@[simp] theorem resetCore_mem (p : Params) : (resetCore p s).mem = s.mem := rfl
@[simp] theorem resetCore_dt (p : Params) : (resetCore p s).dt = (State.powerOn p).dt := rfl
@[simp] theorem resetCore_st (p : Params) : (resetCore p s).st = (State.powerOn p).st := rfl
@[simp] theorem resetCore_timerTicks (p : Params) : (resetCore p s).timerTicks = (State.powerOn p).timerTicks := rfl
@[simp] theorem resetCore_keys (p : Params) : (resetCore p s).keys = (State.powerOn p).keys := rfl
@[simp] theorem resetCore_fb (p : Params) : (resetCore p s).fb = (State.powerOn p).fb := rfl

/-! ### `writeTimer` -/

@[simp] theorem writeTimer_a (t : Timer) (w : BitVec timerWidth) : (writeTimer t w s).a = s.a := by
  cases t <;> rfl
@[simp] theorem writeTimer_f (t : Timer) (w : BitVec timerWidth) : (writeTimer t w s).f = s.f := by
  cases t <;> rfl
@[simp] theorem writeTimer_b (t : Timer) (w : BitVec timerWidth) : (writeTimer t w s).b = s.b := by
  cases t <;> rfl
@[simp] theorem writeTimer_c (t : Timer) (w : BitVec timerWidth) : (writeTimer t w s).c = s.c := by
  cases t <;> rfl
@[simp] theorem writeTimer_d (t : Timer) (w : BitVec timerWidth) : (writeTimer t w s).d = s.d := by
  cases t <;> rfl
@[simp] theorem writeTimer_e (t : Timer) (w : BitVec timerWidth) : (writeTimer t w s).e = s.e := by
  cases t <;> rfl
@[simp] theorem writeTimer_h (t : Timer) (w : BitVec timerWidth) : (writeTimer t w s).h = s.h := by
  cases t <;> rfl
@[simp] theorem writeTimer_l (t : Timer) (w : BitVec timerWidth) : (writeTimer t w s).l = s.l := by
  cases t <;> rfl
@[simp] theorem writeTimer_th (t : Timer) (w : BitVec timerWidth) : (writeTimer t w s).th = s.th := by
  cases t <;> rfl
@[simp] theorem writeTimer_tl (t : Timer) (w : BitVec timerWidth) : (writeTimer t w s).tl = s.tl := by
  cases t <;> rfl
@[simp] theorem writeTimer_pc (t : Timer) (w : BitVec timerWidth) : (writeTimer t w s).pc = s.pc := by
  cases t <;> rfl
@[simp] theorem writeTimer_sp (t : Timer) (w : BitVec timerWidth) : (writeTimer t w s).sp = s.sp := by
  cases t <;> rfl
@[simp] theorem writeTimer_bus (t : Timer) (w : BitVec timerWidth) : (writeTimer t w s).bus = s.bus := by
  cases t <;> rfl
@[simp] theorem writeTimer_ext (t : Timer) (w : BitVec timerWidth) : (writeTimer t w s).ext = s.ext := by
  cases t <;> rfl
@[simp] theorem writeTimer_seeded (t : Timer) (w : BitVec timerWidth) : (writeTimer t w s).seeded = s.seeded := by
  cases t <;> rfl
@[simp] theorem writeTimer_fault (t : Timer) (w : BitVec timerWidth) : (writeTimer t w s).fault = s.fault := by
  cases t <;> rfl
@[simp] theorem writeTimer_tickCount (t : Timer) (w : BitVec timerWidth) : (writeTimer t w s).tickCount = s.tickCount := by
  cases t <;> rfl
@[simp] theorem writeTimer_queue (t : Timer) (w : BitVec timerWidth) : (writeTimer t w s).queue = s.queue := by
  cases t <;> rfl
@[simp] theorem writeTimer_callStack (t : Timer) (w : BitVec timerWidth) : (writeTimer t w s).callStack = s.callStack := by
  cases t <;> rfl
@[simp] theorem writeTimer_mem (t : Timer) (w : BitVec timerWidth) : (writeTimer t w s).mem = s.mem := by
  cases t <;> rfl
@[simp] theorem writeTimer_timerTicks (t : Timer) (w : BitVec timerWidth) : (writeTimer t w s).timerTicks = s.timerTicks := by
  cases t <;> rfl
@[simp] theorem writeTimer_keys (t : Timer) (w : BitVec timerWidth) : (writeTimer t w s).keys = s.keys := by
  cases t <;> rfl
@[simp] theorem writeTimer_fb (t : Timer) (w : BitVec timerWidth) : (writeTimer t w s).fb = s.fb := by
  cases t <;> rfl

/-! ### `resume` -/

/-- `resume()` of a core that is not faulted does nothing (spec/60_exceptions.md R330). -/
theorem resume_of_not_faulted (h : s.fault = none) : resume s = s := by
  unfold resume; rw [h]

/-- `resume()` of a faulted core clears `FAULT` and `SEEDED` and nothing else (R330). -/
theorem resume_of_faulted (h : s.fault ≠ none) : resume s = { s with fault := none, seeded := false } := by
  unfold resume
  cases hf : s.fault with
  | none => exact absurd hf h
  | some e => rfl

/-! ### `State.powerOn` -/

@[simp] theorem powerOn_a (p : Params) : (State.powerOn p).a = 0x00 := rfl
@[simp] theorem powerOn_f (p : Params) : (State.powerOn p).f = 0x00 := rfl
@[simp] theorem powerOn_b (p : Params) : (State.powerOn p).b = 0x00 := rfl
@[simp] theorem powerOn_c (p : Params) : (State.powerOn p).c = 0x00 := rfl
@[simp] theorem powerOn_d (p : Params) : (State.powerOn p).d = 0x00 := rfl
@[simp] theorem powerOn_e (p : Params) : (State.powerOn p).e = 0x00 := rfl
@[simp] theorem powerOn_h (p : Params) : (State.powerOn p).h = 0x00 := rfl
@[simp] theorem powerOn_l (p : Params) : (State.powerOn p).l = 0x00 := rfl
@[simp] theorem powerOn_th (p : Params) : (State.powerOn p).th = 0x00 := rfl
@[simp] theorem powerOn_tl (p : Params) : (State.powerOn p).tl = 0x00 := rfl
@[simp] theorem powerOn_pc (p : Params) : (State.powerOn p).pc = p.resetPc := rfl
@[simp] theorem powerOn_sp (p : Params) : (State.powerOn p).sp = 0x0000 := rfl
@[simp] theorem powerOn_bus (p : Params) : (State.powerOn p).bus = 0x0000 := rfl
@[simp] theorem powerOn_ext (p : Params) : (State.powerOn p).ext = false := rfl
@[simp] theorem powerOn_seeded (p : Params) : (State.powerOn p).seeded = false := rfl
@[simp] theorem powerOn_fault (p : Params) : (State.powerOn p).fault = none := rfl
@[simp] theorem powerOn_tickCount (p : Params) : (State.powerOn p).tickCount = 0 := rfl
@[simp] theorem powerOn_queue (p : Params) : (State.powerOn p).queue = [] := rfl
@[simp] theorem powerOn_callStack (p : Params) : (State.powerOn p).callStack = [] := rfl
@[simp] theorem powerOn_mem (p : Params) : (State.powerOn p).mem = [] := rfl
@[simp] theorem powerOn_dt (p : Params) : (State.powerOn p).dt = 0 := rfl
@[simp] theorem powerOn_st (p : Params) : (State.powerOn p).st = 0 := rfl
@[simp] theorem powerOn_timerTicks (p : Params) : (State.powerOn p).timerTicks = 0 := rfl
@[simp] theorem powerOn_keys (p : Params) : (State.powerOn p).keys = 0 := rfl
@[simp] theorem powerOn_fb (p : Params) : (State.powerOn p).fb = FrameBuffer.clear := rfl

end Sys2Proof.Machine
end

