-- ==== Sys2Proof/Laws/Ops.lean ====
section
/-! SUPPORT. For each shared operation, once, everything it can do. -/

namespace Sys2Proof.Machine

/-! ### Registers -/

@[simp] theorem readReg8_writeReg8_same (n : Reg8) (v : Byte) (s : State) :
    readReg8 n (writeReg8 n v s) = if n = .f then maskF v else v := by
  cases n <;> simp [readReg8, maskF, BitVec.and_assoc]

theorem readReg8_writeReg8_other {m n : Reg8} (v : Byte) (s : State) (h : m ≠ n) :
    readReg8 m (writeReg8 n v s) = readReg8 m s := by
  cases n <;> cases m <;> simp_all [readReg8]

/-- The flag bits of a masked flag byte are those of the byte. -/
@[simp] theorem flagC_maskF (f : Byte) : flagC (maskF f) = flagC f := by
  simp [flagC, maskF]
@[simp] theorem flagZ_maskF (f : Byte) : flagZ (maskF f) = flagZ f := by
  simp [flagZ, maskF]

/-- The flag bytes computed have their low four bits clear (spec/10_state.md R39). -/
@[simp] theorem maskF_packFlags (z n h c : Bool) : maskF (packFlags z n h c) = packFlags z n h c := by
  cases z <;> cases n <;> cases h <;> cases c <;> decide

/-- Each flag of a packed flag byte is the one packed (R38). -/
@[simp] theorem flagZ_packFlags (z n h c : Bool) : flagZ (packFlags z n h c) = z := by
  cases z <;> cases n <;> cases h <;> cases c <;> decide
@[simp] theorem flagN_packFlags (z n h c : Bool) : flagN (packFlags z n h c) = n := by
  cases z <;> cases n <;> cases h <;> cases c <;> decide
@[simp] theorem flagH_packFlags (z n h c : Bool) : flagH (packFlags z n h c) = h := by
  cases z <;> cases n <;> cases h <;> cases c <;> decide
@[simp] theorem flagC_packFlags (z n h c : Bool) : flagC (packFlags z n h c) = c := by
  cases z <;> cases n <;> cases h <;> cases c <;> decide

@[simp] theorem toNat_joinBytes (h l : Byte) : (joinBytes h l).toNat = h.toNat * 256 + l.toNat := by
  have := h.isLt
  have := l.isLt
  simp only [joinBytes, BitVec.toNat_ofNat]
  omega
@[simp] theorem hiByte_joinBytes (h l : Byte) : hiByte (joinBytes h l) = h := by
  have := h.isLt
  have := l.isLt
  apply BitVec.eq_of_toNat_eq
  simp only [hiByte, BitVec.extractLsb'_toNat, toNat_joinBytes, Nat.shiftRight_eq_div_pow]
  omega
@[simp] theorem loByte_joinBytes (h l : Byte) : loByte (joinBytes h l) = l := by
  have := h.isLt
  have := l.isLt
  apply BitVec.eq_of_toNat_eq
  simp only [loByte, BitVec.extractLsb'_toNat, toNat_joinBytes, Nat.shiftRight_eq_div_pow]
  omega
@[simp] theorem joinBytes_hiByte_loByte (v : Word) : joinBytes (hiByte v) (loByte v) = v := by
  have := v.isLt
  apply BitVec.eq_of_toNat_eq
  simp only [toNat_joinBytes, hiByte, loByte, BitVec.extractLsb'_toNat, Nat.shiftRight_eq_div_pow]
  omega

/-! ### Range-checked writes -/

theorem inRange_iff (p : Params) (v : Int) : inRange p v = true ↔ 0 ≤ v ∧ v < p.memSize := by
  cases v with
  | ofNat n => simp [inRange]
  | negSucc n => simp [inRange]

/-- `setPC`: the value in range is written and nothing else; out of range it raises and nothing is written
(spec/10_state.md R44). -/
theorem setPC_cases (p : Params) (v : Int) (s : State) :
    (0 ≤ v ∧ v < p.memSize ∧ setPC p v s = .done { s with pc := BitVec.ofInt 16 v }) ∨
      (¬(0 ≤ v ∧ v < p.memSize) ∧ setPC p v s = .raised (.outOfRangeAccess v) s) := by
  by_cases h : inRange p v = true
  · exact .inl ⟨((inRange_iff p v).1 h).1, ((inRange_iff p v).1 h).2, by simp [setPC, h]⟩
  · exact .inr ⟨fun hv => h ((inRange_iff p v).2 hv), by simp [setPC, h]⟩

/-- `setSP`: as `setPC`, for `SP` (R44). -/
theorem setSP_cases (p : Params) (v : Int) (s : State) :
    (0 ≤ v ∧ v < p.memSize ∧ setSP p v s = .done { s with sp := BitVec.ofInt 16 v }) ∨
      (¬(0 ≤ v ∧ v < p.memSize) ∧ setSP p v s = .raised (.outOfRangeAccess v) s) := by
  by_cases h : inRange p v = true
  · exact .inl ⟨((inRange_iff p v).1 h).1, ((inRange_iff p v).1 h).2, by simp [setSP, h]⟩
  · exact .inr ⟨fun hv => h ((inRange_iff p v).2 hv), by simp [setSP, h]⟩

/-- At the reference parameters every 16-bit value is in range. -/
theorem inRange_word (w : Word) : inRange Params.reference (w.toNat : Int) = true := by
  rw [inRange_iff]
  have := w.isLt
  exact ⟨Int.natCast_nonneg _, by simp only [Params.reference]; omega⟩

/-- At the reference parameters writing a 16-bit value to `PC` never raises. -/
theorem setPC_word (w : Word) (s : State) :
    setPC Params.reference (w.toNat : Int) s = .done { s with pc := w } := by
  rw [setPC, if_pos (inRange_word w), BitVec.ofInt_natCast, BitVec.ofNat_toNat, BitVec.setWidth_eq]

/-- At the reference parameters writing a 16-bit value to `SP` never raises. -/
theorem setSP_word (w : Word) (s : State) :
    setSP Params.reference (w.toNat : Int) s = .done { s with sp := w } := by
  rw [setSP, if_pos (inRange_word w), BitVec.ofInt_natCast, BitVec.ofNat_toNat, BitVec.setWidth_eq]

/-- At the reference parameters `IncPC` below the top of memory adds one (spec/40_pipeline.md R155). -/
theorem incPC_of_lt {s : State} (h : s.pc.toNat + 1 < 0x10000) :
    incPC Params.reference s = .done { s with pc := s.pc + 1 } := by
  have e : ((s.pc.toNat : Int) + 1) = ((s.pc + 1).toNat : Int) := by
    rw [BitVec.toNat_add]; simp; omega
  rw [incPC, e, setPC_word]

/-- At the reference parameters `IncPC` at the top of memory raises (R155). -/
theorem incPC_of_top {s : State} (h : s.pc.toNat + 1 = 0x10000) :
    incPC Params.reference s = .raised (.outOfRangeAccess 0x10000) s := by
  have e : ((s.pc.toNat : Int) + 1) = 0x10000 := by omega
  rw [incPC, e]; rfl

/-! ### Memory -/

/-- `MemRead` (spec/20_memory.md R83). -/
theorem memRead_cases (p : Params) (a : Int) (s : State) :
    (0 ≤ a ∧ a < p.memSize ∧ memRead p a s = .ok (s.mem.read a.toNat)) ∨
      (¬(0 ≤ a ∧ a < p.memSize) ∧ memRead p a s = .error (.outOfRangeAccess a)) := by
  by_cases h : inRange p a = true
  · exact .inl ⟨((inRange_iff p a).1 h).1, ((inRange_iff p a).1 h).2, by simp [memRead, h]⟩
  · exact .inr ⟨fun hv => h ((inRange_iff p a).2 hv), by simp [memRead, h]⟩

/-- At the reference parameters every 16-bit address can be read. -/
theorem memRead_word (w : Word) (s : State) :
    memRead Params.reference (w.toNat : Int) s = .ok (s.mem.read w.toNat) := by
  rw [memRead, if_pos (inRange_word w), Int.toNat_natCast]

/-- `MemWrite` (R84): a working-region address is written, any other raises and nothing is written. -/
theorem memWrite_cases (p : Params) (a : Int) (v : Byte) (s : State) :
    (0 ≤ a ∧ a < p.memSize ∧ p.progEnd ≤ a ∧
        memWrite p a v s = .done { s with mem := s.mem.write a.toNat v }) ∨
      (¬(0 ≤ a ∧ a < p.memSize ∧ p.progEnd ≤ a) ∧ memWrite p a v s = .raised (.outOfRangeAccess a) s) := by
  by_cases h : inRange p a = true
  · have h' := (inRange_iff p a).1 h
    by_cases hp : a.toNat < p.progEnd
    · exact .inr ⟨fun hv => by omega, by simp [memWrite, h, hp]⟩
    · exact .inl ⟨h'.1, h'.2, by omega, by simp [memWrite, h, hp]⟩
  · exact .inr ⟨fun hv => h ((inRange_iff p a).2 ⟨hv.1, hv.2.1⟩), by simp [memWrite, h]⟩

/-- At the reference parameters a store to a 16-bit address succeeds exactly in the working region (R84). -/
theorem memWrite_word (w : Word) (v : Byte) (s : State) :
    memWrite Params.reference (w.toNat : Int) v s =
      if w.toNat < 0x8000 then .raised (.outOfRangeAccess w.toNat) s
      else .done { s with mem := s.mem.write w.toNat v } := by
  rw [memWrite, if_pos (inRange_word w), Int.toNat_natCast]
  by_cases h : w.toNat < 0x8000
  · rw [if_pos h, if_pos (by simp only [Params.reference]; omega)]
  · rw [if_neg h, if_neg (by simp only [Params.reference]; omega)]

/-! ### The call stack -/

/-- `Push` (spec/10_state.md R52). -/
theorem push_cases (p : Params) (a : Word) (s : State) :
    (s.callStack.length < p.callStackCapacity ∧
        push p a s = .done { s with callStack := s.callStack ++ [a] }) ∨
      (p.callStackCapacity ≤ s.callStack.length ∧ push p a s = .raised .callStackOverflow s) := by
  by_cases h : p.callStackCapacity ≤ s.callStack.length
  · exact .inr ⟨h, by simp [push, h]⟩
  · exact .inl ⟨Nat.lt_of_not_le h, by simp [push, h]⟩

/-- `PopPC` (spec/44_control.md R297): on an empty stack it raises; else the pop and the write of `PC` happen together
or not at all. -/
theorem popPC_cases (p : Params) (s : State) :
    (s.callStack = [] ∧ popPC p s = .raised .callStackUnderflow s) ∨
      (∃ rest t, s.callStack = rest ++ [t] ∧ t.toNat < p.memSize ∧
        popPC p s = .done { s with pc := t, callStack := rest }) ∨
      (∃ rest t, s.callStack = rest ++ [t] ∧ p.memSize ≤ t.toNat ∧
        popPC p s = .raised (.outOfRangeAccess t.toNat) s) := by
  rcases List.eq_nil_or_concat s.callStack with h | ⟨rest, t, h⟩
  · exact .inl ⟨h, by simp [popPC, h]⟩
  · right
    rw [List.concat_eq_append] at h
    rcases setPC_cases p t.toNat s with ⟨_, h2, h3⟩ | ⟨h2, h3⟩
    · exact .inl ⟨rest, t, h, by omega, by simp [popPC, h, h3]⟩
    · exact .inr ⟨rest, t, h, by omega, by simp [popPC, h, h3]⟩

end Sys2Proof.Machine
end

