-- ==== Sys2Proof/Laws/PerInstr.lean ====
section
/-! SUPPORT. One lemma per instruction: the byte the encoder writes for it, from the bit pattern of its family rule, is the
index at which the decode ROM holds it (spec/30_encoding.md R110, R111, R124, R125), in the table its format names. -/

namespace Sys2Proof.Laws.OpcodeReads

set_option Elab.async false

/-- The table of the instruction's format holds it at the opcode the encoder writes. -/
def Statement (i : Instr) : Prop := referenceRom i.descriptor.extended i.descriptor.opcode = some i

theorem nop : Statement .nop := by unfold Statement; decide +kernel
theorem ld_bc_d16 : Statement .ld_bc_d16 := by unfold Statement; decide +kernel
theorem inc_bc : Statement .inc_bc := by unfold Statement; decide +kernel
theorem inc_b : Statement .inc_b := by unfold Statement; decide +kernel
theorem dec_b : Statement .dec_b := by unfold Statement; decide +kernel
theorem ld_b_d8 : Statement .ld_b_d8 := by unfold Statement; decide +kernel
theorem rlca : Statement .rlca := by unfold Statement; decide +kernel
theorem dec_bc : Statement .dec_bc := by unfold Statement; decide +kernel
theorem inc_c : Statement .inc_c := by unfold Statement; decide +kernel
theorem dec_c : Statement .dec_c := by unfold Statement; decide +kernel
theorem ld_c_d8 : Statement .ld_c_d8 := by unfold Statement; decide +kernel
theorem rrca : Statement .rrca := by unfold Statement; decide +kernel
theorem ld_de_d16 : Statement .ld_de_d16 := by unfold Statement; decide +kernel
theorem inc_de : Statement .inc_de := by unfold Statement; decide +kernel
theorem inc_d : Statement .inc_d := by unfold Statement; decide +kernel
theorem dec_d : Statement .dec_d := by unfold Statement; decide +kernel
theorem ld_d_d8 : Statement .ld_d_d8 := by unfold Statement; decide +kernel
theorem rla : Statement .rla := by unfold Statement; decide +kernel
theorem jr_e8 : Statement .jr_e8 := by unfold Statement; decide +kernel
theorem dec_de : Statement .dec_de := by unfold Statement; decide +kernel
theorem inc_e : Statement .inc_e := by unfold Statement; decide +kernel
theorem dec_e : Statement .dec_e := by unfold Statement; decide +kernel
theorem ld_e_d8 : Statement .ld_e_d8 := by unfold Statement; decide +kernel
theorem rra : Statement .rra := by unfold Statement; decide +kernel
theorem jr_nz_e8 : Statement .jr_nz_e8 := by unfold Statement; decide +kernel
theorem ld_hl_d16 : Statement .ld_hl_d16 := by unfold Statement; decide +kernel
theorem inc_hl : Statement .inc_hl := by unfold Statement; decide +kernel
theorem inc_h : Statement .inc_h := by unfold Statement; decide +kernel
theorem dec_h : Statement .dec_h := by unfold Statement; decide +kernel
theorem ld_h_d8 : Statement .ld_h_d8 := by unfold Statement; decide +kernel
theorem jr_z_e8 : Statement .jr_z_e8 := by unfold Statement; decide +kernel
theorem dec_hl : Statement .dec_hl := by unfold Statement; decide +kernel
theorem inc_l : Statement .inc_l := by unfold Statement; decide +kernel
theorem dec_l : Statement .dec_l := by unfold Statement; decide +kernel
theorem ld_l_d8 : Statement .ld_l_d8 := by unfold Statement; decide +kernel
theorem jr_nc_e8 : Statement .jr_nc_e8 := by unfold Statement; decide +kernel
theorem ld_sp_d16 : Statement .ld_sp_d16 := by unfold Statement; decide +kernel
theorem inc_sp : Statement .inc_sp := by unfold Statement; decide +kernel
theorem jr_c_e8 : Statement .jr_c_e8 := by unfold Statement; decide +kernel
theorem dec_sp : Statement .dec_sp := by unfold Statement; decide +kernel
theorem inc_a : Statement .inc_a := by unfold Statement; decide +kernel
theorem dec_a : Statement .dec_a := by unfold Statement; decide +kernel
theorem ld_a_d8 : Statement .ld_a_d8 := by unfold Statement; decide +kernel
theorem ld_b_b : Statement .ld_b_b := by unfold Statement; decide +kernel
theorem ld_b_c : Statement .ld_b_c := by unfold Statement; decide +kernel
theorem ld_b_d : Statement .ld_b_d := by unfold Statement; decide +kernel
theorem ld_b_e : Statement .ld_b_e := by unfold Statement; decide +kernel
theorem ld_b_h : Statement .ld_b_h := by unfold Statement; decide +kernel
theorem ld_b_l : Statement .ld_b_l := by unfold Statement; decide +kernel
theorem ld_b_mhl : Statement .ld_b_mhl := by unfold Statement; decide +kernel
theorem ld_b_a : Statement .ld_b_a := by unfold Statement; decide +kernel
theorem ld_c_b : Statement .ld_c_b := by unfold Statement; decide +kernel
theorem ld_c_c : Statement .ld_c_c := by unfold Statement; decide +kernel
theorem ld_c_d : Statement .ld_c_d := by unfold Statement; decide +kernel
theorem ld_c_e : Statement .ld_c_e := by unfold Statement; decide +kernel
theorem ld_c_h : Statement .ld_c_h := by unfold Statement; decide +kernel
theorem ld_c_l : Statement .ld_c_l := by unfold Statement; decide +kernel
theorem ld_c_mhl : Statement .ld_c_mhl := by unfold Statement; decide +kernel
theorem ld_c_a : Statement .ld_c_a := by unfold Statement; decide +kernel
theorem ld_d_b : Statement .ld_d_b := by unfold Statement; decide +kernel
theorem ld_d_c : Statement .ld_d_c := by unfold Statement; decide +kernel
theorem ld_d_d : Statement .ld_d_d := by unfold Statement; decide +kernel
theorem ld_d_e : Statement .ld_d_e := by unfold Statement; decide +kernel
theorem ld_d_h : Statement .ld_d_h := by unfold Statement; decide +kernel
theorem ld_d_l : Statement .ld_d_l := by unfold Statement; decide +kernel
theorem ld_d_mhl : Statement .ld_d_mhl := by unfold Statement; decide +kernel
theorem ld_d_a : Statement .ld_d_a := by unfold Statement; decide +kernel
theorem ld_e_b : Statement .ld_e_b := by unfold Statement; decide +kernel
theorem ld_e_c : Statement .ld_e_c := by unfold Statement; decide +kernel
theorem ld_e_d : Statement .ld_e_d := by unfold Statement; decide +kernel
theorem ld_e_e : Statement .ld_e_e := by unfold Statement; decide +kernel
theorem ld_e_h : Statement .ld_e_h := by unfold Statement; decide +kernel
theorem ld_e_l : Statement .ld_e_l := by unfold Statement; decide +kernel
theorem ld_e_mhl : Statement .ld_e_mhl := by unfold Statement; decide +kernel
theorem ld_e_a : Statement .ld_e_a := by unfold Statement; decide +kernel
theorem ld_h_b : Statement .ld_h_b := by unfold Statement; decide +kernel
theorem ld_h_c : Statement .ld_h_c := by unfold Statement; decide +kernel
theorem ld_h_d : Statement .ld_h_d := by unfold Statement; decide +kernel
theorem ld_h_e : Statement .ld_h_e := by unfold Statement; decide +kernel
theorem ld_h_h : Statement .ld_h_h := by unfold Statement; decide +kernel
theorem ld_h_l : Statement .ld_h_l := by unfold Statement; decide +kernel
theorem ld_h_mhl : Statement .ld_h_mhl := by unfold Statement; decide +kernel
theorem ld_h_a : Statement .ld_h_a := by unfold Statement; decide +kernel
theorem ld_l_b : Statement .ld_l_b := by unfold Statement; decide +kernel
theorem ld_l_c : Statement .ld_l_c := by unfold Statement; decide +kernel
theorem ld_l_d : Statement .ld_l_d := by unfold Statement; decide +kernel
theorem ld_l_e : Statement .ld_l_e := by unfold Statement; decide +kernel
theorem ld_l_h : Statement .ld_l_h := by unfold Statement; decide +kernel
theorem ld_l_l : Statement .ld_l_l := by unfold Statement; decide +kernel
theorem ld_l_mhl : Statement .ld_l_mhl := by unfold Statement; decide +kernel
theorem ld_l_a : Statement .ld_l_a := by unfold Statement; decide +kernel
theorem ld_mhl_b : Statement .ld_mhl_b := by unfold Statement; decide +kernel
theorem ld_mhl_c : Statement .ld_mhl_c := by unfold Statement; decide +kernel
theorem ld_mhl_d : Statement .ld_mhl_d := by unfold Statement; decide +kernel
theorem ld_mhl_e : Statement .ld_mhl_e := by unfold Statement; decide +kernel
theorem ld_mhl_h : Statement .ld_mhl_h := by unfold Statement; decide +kernel
theorem ld_mhl_l : Statement .ld_mhl_l := by unfold Statement; decide +kernel
theorem ld_mhl_a : Statement .ld_mhl_a := by unfold Statement; decide +kernel
theorem ld_a_b : Statement .ld_a_b := by unfold Statement; decide +kernel
theorem ld_a_c : Statement .ld_a_c := by unfold Statement; decide +kernel
theorem ld_a_d : Statement .ld_a_d := by unfold Statement; decide +kernel
theorem ld_a_e : Statement .ld_a_e := by unfold Statement; decide +kernel
theorem ld_a_h : Statement .ld_a_h := by unfold Statement; decide +kernel
theorem ld_a_l : Statement .ld_a_l := by unfold Statement; decide +kernel
theorem ld_a_mhl : Statement .ld_a_mhl := by unfold Statement; decide +kernel
theorem ld_a_a : Statement .ld_a_a := by unfold Statement; decide +kernel
theorem add_a_b : Statement .add_a_b := by unfold Statement; decide +kernel
theorem add_a_c : Statement .add_a_c := by unfold Statement; decide +kernel
theorem add_a_d : Statement .add_a_d := by unfold Statement; decide +kernel
theorem add_a_e : Statement .add_a_e := by unfold Statement; decide +kernel
theorem add_a_h : Statement .add_a_h := by unfold Statement; decide +kernel
theorem add_a_l : Statement .add_a_l := by unfold Statement; decide +kernel
theorem add_a_mhl : Statement .add_a_mhl := by unfold Statement; decide +kernel
theorem add_a_a : Statement .add_a_a := by unfold Statement; decide +kernel
theorem adc_a_b : Statement .adc_a_b := by unfold Statement; decide +kernel
theorem adc_a_c : Statement .adc_a_c := by unfold Statement; decide +kernel
theorem adc_a_d : Statement .adc_a_d := by unfold Statement; decide +kernel
theorem adc_a_e : Statement .adc_a_e := by unfold Statement; decide +kernel
theorem adc_a_h : Statement .adc_a_h := by unfold Statement; decide +kernel
theorem adc_a_l : Statement .adc_a_l := by unfold Statement; decide +kernel
theorem adc_a_mhl : Statement .adc_a_mhl := by unfold Statement; decide +kernel
theorem adc_a_a : Statement .adc_a_a := by unfold Statement; decide +kernel
theorem sub_a_b : Statement .sub_a_b := by unfold Statement; decide +kernel
theorem sub_a_c : Statement .sub_a_c := by unfold Statement; decide +kernel
theorem sub_a_d : Statement .sub_a_d := by unfold Statement; decide +kernel
theorem sub_a_e : Statement .sub_a_e := by unfold Statement; decide +kernel
theorem sub_a_h : Statement .sub_a_h := by unfold Statement; decide +kernel
theorem sub_a_l : Statement .sub_a_l := by unfold Statement; decide +kernel
theorem sub_a_mhl : Statement .sub_a_mhl := by unfold Statement; decide +kernel
theorem sub_a_a : Statement .sub_a_a := by unfold Statement; decide +kernel
theorem sbc_a_b : Statement .sbc_a_b := by unfold Statement; decide +kernel
theorem sbc_a_c : Statement .sbc_a_c := by unfold Statement; decide +kernel
theorem sbc_a_d : Statement .sbc_a_d := by unfold Statement; decide +kernel
theorem sbc_a_e : Statement .sbc_a_e := by unfold Statement; decide +kernel
theorem sbc_a_h : Statement .sbc_a_h := by unfold Statement; decide +kernel
theorem sbc_a_l : Statement .sbc_a_l := by unfold Statement; decide +kernel
theorem sbc_a_mhl : Statement .sbc_a_mhl := by unfold Statement; decide +kernel
theorem sbc_a_a : Statement .sbc_a_a := by unfold Statement; decide +kernel
theorem and_a_b : Statement .and_a_b := by unfold Statement; decide +kernel
theorem and_a_c : Statement .and_a_c := by unfold Statement; decide +kernel
theorem and_a_d : Statement .and_a_d := by unfold Statement; decide +kernel
theorem and_a_e : Statement .and_a_e := by unfold Statement; decide +kernel
theorem and_a_h : Statement .and_a_h := by unfold Statement; decide +kernel
theorem and_a_l : Statement .and_a_l := by unfold Statement; decide +kernel
theorem and_a_mhl : Statement .and_a_mhl := by unfold Statement; decide +kernel
theorem and_a_a : Statement .and_a_a := by unfold Statement; decide +kernel
theorem xor_a_b : Statement .xor_a_b := by unfold Statement; decide +kernel
theorem xor_a_c : Statement .xor_a_c := by unfold Statement; decide +kernel
theorem xor_a_d : Statement .xor_a_d := by unfold Statement; decide +kernel
theorem xor_a_e : Statement .xor_a_e := by unfold Statement; decide +kernel
theorem xor_a_h : Statement .xor_a_h := by unfold Statement; decide +kernel
theorem xor_a_l : Statement .xor_a_l := by unfold Statement; decide +kernel
theorem xor_a_mhl : Statement .xor_a_mhl := by unfold Statement; decide +kernel
theorem xor_a_a : Statement .xor_a_a := by unfold Statement; decide +kernel
theorem or_a_b : Statement .or_a_b := by unfold Statement; decide +kernel
theorem or_a_c : Statement .or_a_c := by unfold Statement; decide +kernel
theorem or_a_d : Statement .or_a_d := by unfold Statement; decide +kernel
theorem or_a_e : Statement .or_a_e := by unfold Statement; decide +kernel
theorem or_a_h : Statement .or_a_h := by unfold Statement; decide +kernel
theorem or_a_l : Statement .or_a_l := by unfold Statement; decide +kernel
theorem or_a_mhl : Statement .or_a_mhl := by unfold Statement; decide +kernel
theorem or_a_a : Statement .or_a_a := by unfold Statement; decide +kernel
theorem cp_a_b : Statement .cp_a_b := by unfold Statement; decide +kernel
theorem cp_a_c : Statement .cp_a_c := by unfold Statement; decide +kernel
theorem cp_a_d : Statement .cp_a_d := by unfold Statement; decide +kernel
theorem cp_a_e : Statement .cp_a_e := by unfold Statement; decide +kernel
theorem cp_a_h : Statement .cp_a_h := by unfold Statement; decide +kernel
theorem cp_a_l : Statement .cp_a_l := by unfold Statement; decide +kernel
theorem cp_a_mhl : Statement .cp_a_mhl := by unfold Statement; decide +kernel
theorem cp_a_a : Statement .cp_a_a := by unfold Statement; decide +kernel
theorem jp_a16 : Statement .jp_a16 := by unfold Statement; decide +kernel
theorem add_a_d8 : Statement .add_a_d8 := by unfold Statement; decide +kernel
theorem ret : Statement .ret := by unfold Statement; decide +kernel
theorem prefixCB : Statement .prefixCB := by unfold Statement; decide +kernel
theorem call_a16 : Statement .call_a16 := by unfold Statement; decide +kernel
theorem adc_a_d8 : Statement .adc_a_d8 := by unfold Statement; decide +kernel
theorem cls : Statement .cls := by unfold Statement; decide +kernel
theorem sub_a_d8 : Statement .sub_a_d8 := by unfold Statement; decide +kernel
theorem sbc_a_d8 : Statement .sbc_a_d8 := by unfold Statement; decide +kernel
theorem and_a_d8 : Statement .and_a_d8 := by unfold Statement; decide +kernel
theorem xor_a_d8 : Statement .xor_a_d8 := by unfold Statement; decide +kernel
theorem or_a_d8 : Statement .or_a_d8 := by unfold Statement; decide +kernel
theorem cp_a_d8 : Statement .cp_a_d8 := by unfold Statement; decide +kernel
theorem rlc_b : Statement .rlc_b := by unfold Statement; decide +kernel
theorem rlc_c : Statement .rlc_c := by unfold Statement; decide +kernel
theorem rlc_d : Statement .rlc_d := by unfold Statement; decide +kernel
theorem rlc_e : Statement .rlc_e := by unfold Statement; decide +kernel
theorem rlc_h : Statement .rlc_h := by unfold Statement; decide +kernel
theorem rlc_l : Statement .rlc_l := by unfold Statement; decide +kernel
theorem rlc_mhl : Statement .rlc_mhl := by unfold Statement; decide +kernel
theorem rlc_a : Statement .rlc_a := by unfold Statement; decide +kernel
theorem rrc_b : Statement .rrc_b := by unfold Statement; decide +kernel
theorem rrc_c : Statement .rrc_c := by unfold Statement; decide +kernel
theorem rrc_d : Statement .rrc_d := by unfold Statement; decide +kernel
theorem rrc_e : Statement .rrc_e := by unfold Statement; decide +kernel
theorem rrc_h : Statement .rrc_h := by unfold Statement; decide +kernel
theorem rrc_l : Statement .rrc_l := by unfold Statement; decide +kernel
theorem rrc_mhl : Statement .rrc_mhl := by unfold Statement; decide +kernel
theorem rrc_a : Statement .rrc_a := by unfold Statement; decide +kernel
theorem rl_b : Statement .rl_b := by unfold Statement; decide +kernel
theorem rl_c : Statement .rl_c := by unfold Statement; decide +kernel
theorem rl_d : Statement .rl_d := by unfold Statement; decide +kernel
theorem rl_e : Statement .rl_e := by unfold Statement; decide +kernel
theorem rl_h : Statement .rl_h := by unfold Statement; decide +kernel
theorem rl_l : Statement .rl_l := by unfold Statement; decide +kernel
theorem rl_mhl : Statement .rl_mhl := by unfold Statement; decide +kernel
theorem rl_a : Statement .rl_a := by unfold Statement; decide +kernel
theorem rr_b : Statement .rr_b := by unfold Statement; decide +kernel
theorem rr_c : Statement .rr_c := by unfold Statement; decide +kernel
theorem rr_d : Statement .rr_d := by unfold Statement; decide +kernel
theorem rr_e : Statement .rr_e := by unfold Statement; decide +kernel
theorem rr_h : Statement .rr_h := by unfold Statement; decide +kernel
theorem rr_l : Statement .rr_l := by unfold Statement; decide +kernel
theorem rr_mhl : Statement .rr_mhl := by unfold Statement; decide +kernel
theorem rr_a : Statement .rr_a := by unfold Statement; decide +kernel
theorem sla_b : Statement .sla_b := by unfold Statement; decide +kernel
theorem sla_c : Statement .sla_c := by unfold Statement; decide +kernel
theorem sla_d : Statement .sla_d := by unfold Statement; decide +kernel
theorem sla_e : Statement .sla_e := by unfold Statement; decide +kernel
theorem sla_h : Statement .sla_h := by unfold Statement; decide +kernel
theorem sla_l : Statement .sla_l := by unfold Statement; decide +kernel
theorem sla_mhl : Statement .sla_mhl := by unfold Statement; decide +kernel
theorem sla_a : Statement .sla_a := by unfold Statement; decide +kernel
theorem sra_b : Statement .sra_b := by unfold Statement; decide +kernel
theorem sra_c : Statement .sra_c := by unfold Statement; decide +kernel
theorem sra_d : Statement .sra_d := by unfold Statement; decide +kernel
theorem sra_e : Statement .sra_e := by unfold Statement; decide +kernel
theorem sra_h : Statement .sra_h := by unfold Statement; decide +kernel
theorem sra_l : Statement .sra_l := by unfold Statement; decide +kernel
theorem sra_mhl : Statement .sra_mhl := by unfold Statement; decide +kernel
theorem sra_a : Statement .sra_a := by unfold Statement; decide +kernel
theorem swap_b : Statement .swap_b := by unfold Statement; decide +kernel
theorem swap_c : Statement .swap_c := by unfold Statement; decide +kernel
theorem swap_d : Statement .swap_d := by unfold Statement; decide +kernel
theorem swap_e : Statement .swap_e := by unfold Statement; decide +kernel
theorem swap_h : Statement .swap_h := by unfold Statement; decide +kernel
theorem swap_l : Statement .swap_l := by unfold Statement; decide +kernel
theorem swap_mhl : Statement .swap_mhl := by unfold Statement; decide +kernel
theorem swap_a : Statement .swap_a := by unfold Statement; decide +kernel
theorem srl_b : Statement .srl_b := by unfold Statement; decide +kernel
theorem srl_c : Statement .srl_c := by unfold Statement; decide +kernel
theorem srl_d : Statement .srl_d := by unfold Statement; decide +kernel
theorem srl_e : Statement .srl_e := by unfold Statement; decide +kernel
theorem srl_h : Statement .srl_h := by unfold Statement; decide +kernel
theorem srl_l : Statement .srl_l := by unfold Statement; decide +kernel
theorem srl_mhl : Statement .srl_mhl := by unfold Statement; decide +kernel
theorem srl_a : Statement .srl_a := by unfold Statement; decide +kernel

end Sys2Proof.Laws.OpcodeReads
end

