-- ==== Sys2Proof/Laws/Queue.lean ====
section
/-! SUPPORT. The laws of the execution queue (spec/40_pipeline.md R160, R161, R163): scheduling, draining, and what a
queue in tick order looks like. -/

namespace Sys2Proof.Machine

/-- The queue is in tick order: the canonical form of the map (assumption log 7). -/
def Queue.Ordered (q : Queue) : Prop := q.Pairwise fun x y => x.1 ≤ y.1

/-- Scheduling adds one entry and takes none away. -/
theorem mem_schedule {t : Nat} {op : MicroOp} {q : Queue} {x : Nat × MicroOp} :
    x ∈ schedule t op q ↔ x = (t, op) ∨ x ∈ q := by
  induction q with
  | nil => simp [schedule]
  | cons y q ih =>
    obtain ⟨k, o⟩ := y
    simp only [schedule]
    split
    · simp only [List.mem_cons, ih]; tauto
    · simp only [List.mem_cons]

/-- Scheduling keeps the tick order. -/
theorem ordered_schedule {t : Nat} {op : MicroOp} {q : Queue} (h : Queue.Ordered q) :
    Queue.Ordered (schedule t op q) := by
  induction q with
  | nil => simp [schedule, Queue.Ordered]
  | cons y q ih =>
    obtain ⟨k, o⟩ := y
    have h' := List.pairwise_cons.1 h
    simp only [schedule]
    split
    · next hk =>
      refine List.pairwise_cons.2 ⟨fun x hx => ?_, ih h'.2⟩
      rcases mem_schedule.1 hx with rfl | hx
      · exact hk
      · exact h'.1 x hx
    · next hk =>
      refine List.pairwise_cons.2 ⟨fun x hx => ?_, h⟩
      rcases List.mem_cons.1 hx with rfl | hx
      · exact Nat.le_of_lt (Nat.lt_of_not_le hk)
      · exact Nat.le_trans (Nat.le_of_lt (Nat.lt_of_not_le hk)) (h'.1 x hx)

/-- Scheduling no earlier than everything pending puts the operation last. -/
theorem schedule_last {t : Nat} {op : MicroOp} {q : Queue} (h : ∀ x ∈ q, x.1 ≤ t) :
    schedule t op q = q ++ [(t, op)] := by
  induction q with
  | nil => rfl
  | cons y q ih =>
    obtain ⟨k, o⟩ := y
    have hk : k ≤ t := h (k, o) (by simp)
    simp only [schedule, hk, if_true, List.cons_append]
    rw [ih fun x hx => h x (by simp [hx])]

/-- A handler's pairs as queue entries of a boundary at `now`. -/
def atTicks (now : Nat) (ops : List (Nat × MicroOp)) : Queue := ops.map fun x => (now + x.1, x.2)

/-- A handler whose offsets rise schedules its pairs in order behind everything pending before them. -/
theorem scheduleAll_append {now : Nat} {ops : List (Nat × MicroOp)} {q : Queue}
    (ho : ops.Pairwise fun x y => x.1 ≤ y.1) (hq : ∀ x ∈ q, ∀ y ∈ ops, x.1 ≤ now + y.1) :
    scheduleAll now ops q = q ++ atTicks now ops := by
  induction ops generalizing q with
  | nil => simp [scheduleAll, atTicks]
  | cons y ops ih =>
    obtain ⟨k, op⟩ := y
    have ho' := List.pairwise_cons.1 ho
    rw [scheduleAll, schedule_last fun x hx => hq x hx (k, op) (by simp), ih ho'.2]
    · simp [atTicks]
    · intro x hx y hy
      rcases List.mem_append.1 hx with hx | hx
      · exact hq x hx y (by simp [hy])
      · simp only [List.mem_singleton] at hx
        subst hx
        exact Nat.add_le_add_left (ho'.1 y hy) now

/-- A queue in tick order, all of it due at `t` or later, is what is due at `t` followed by the rest. -/
theorem due_append_rest {t : Nat} {q : List (Nat × MicroOp)} (h : q.Pairwise fun x y => x.1 ≤ y.1)
    (ht : ∀ x ∈ q, t ≤ x.1) : (q.filter fun x => x.1 == t) ++ (q.filter fun x => x.1 != t) = q := by
  induction q with
  | nil => rfl
  | cons y q ih =>
    have h' := List.pairwise_cons.1 h
    by_cases hy : y.1 = t
    · have := ih h'.2 fun x hx => ht x (by simp [hx])
      simp [hy, this]
    · have hlt : t < y.1 := Nat.lt_of_le_of_ne (ht y (by simp)) (Ne.symm hy)
      have hall : ∀ x ∈ q, x.1 ≠ t := fun x hx => Nat.ne_of_gt (Nat.lt_of_lt_of_le hlt (h'.1 x hx))
      have h1 : (q.filter fun x => x.1 == t) = [] := by
        simp only [List.filter_eq_nil_iff, beq_iff_eq]; exact hall
      have h2 : (q.filter fun x => x.1 != t) = q := by
        simp only [List.filter_eq_self, bne_iff_ne]; exact hall
      simp [hy, h1, h2]

end Sys2Proof.Machine
end

