-- ==== Sys2Proof/Laws/Run.lean ====
section
/-! SUPPORT. An instruction run through the tick loop is its plan executed in order (spec/40_pipeline.md R174 to R176):
`runDescriptor_eq_runPlan`, and `exec_eq_runPlan` for the dispatch. Proofs about instructions cite these and never
unfold the tick loop. -/

namespace Sys2Proof.Machine

/-! ### Micro-operations neither read nor write the schedule -/

/-- A state with another tick and queue. -/
def State.withSchedule (t : Nat) (q : Queue) (s : State) : State := { s with tickCount := t, queue := q }

/-- A result with a function applied to its state. -/
def OpResult.map (g : State → State) : OpResult → OpResult
  | .done s => .done (g s)
  | .raised e s => .raised e (g s)
  | .refused r => .refused r

@[simp] theorem readReg8_withSchedule (t : Nat) (q : Queue) (n : Reg8) (s : State) :
    readReg8 n (s.withSchedule t q) = readReg8 n s := by cases n <;> rfl

@[simp] theorem readReg16_withSchedule (t : Nat) (q : Queue) (n : Reg16) (s : State) :
    readReg16 n (s.withSchedule t q) = readReg16 n s := by cases n <;> rfl

theorem writeReg8_withSchedule (t : Nat) (q : Queue) (n : Reg8) (v : Byte) (s : State) :
    writeReg8 n v (s.withSchedule t q) = (writeReg8 n v s).withSchedule t q := by cases n <;> rfl

theorem setPC_withSchedule (p : Params) (t : Nat) (q : Queue) (v : Int) (s : State) :
    setPC p v (s.withSchedule t q) = (setPC p v s).map (State.withSchedule t q) := by
  unfold setPC; split <;> rfl

theorem setSP_withSchedule (p : Params) (t : Nat) (q : Queue) (v : Int) (s : State) :
    setSP p v (s.withSchedule t q) = (setSP p v s).map (State.withSchedule t q) := by
  unfold setSP; split <;> rfl

theorem writeReg16_withSchedule (p : Params) (t : Nat) (q : Queue) (n : Reg16) (v : Word) (s : State) :
    writeReg16 p n v (s.withSchedule t q) = (writeReg16 p n v s).map (State.withSchedule t q) := by
  cases n
  · exact setPC_withSchedule p t q _ s
  · exact setSP_withSchedule p t q _ s
  all_goals rfl

theorem memWrite_withSchedule (p : Params) (t : Nat) (q : Queue) (a : Int) (v : Byte) (s : State) :
    memWrite p a v (s.withSchedule t q) = (memWrite p a v s).map (State.withSchedule t q) := by
  unfold memWrite; split
  · split <;> rfl
  · rfl

theorem transfer_withSchedule (p : Params) (t : Nat) (q : Queue) (src dst : Endpoint) (s : State) :
    transfer p src dst (s.withSchedule t q) = (transfer p src dst s).map (State.withSchedule t q) := by
  cases src with
  | reg8 m =>
    cases dst with
    | reg8 n => simp [transfer, writeReg8_withSchedule, OpResult.map]
    | reg16 n => rfl
    | mem r => simp [transfer, memWrite_withSchedule]
  | reg16 m =>
    cases dst with
    | reg8 n => rfl
    | reg16 n => simp [transfer, writeReg16_withSchedule]
    | mem r => rfl
  | mem r =>
    cases dst with
    | reg8 n =>
      have hm : memRead p ((readReg16 r s).toNat : Int) (s.withSchedule t q) =
          memRead p ((readReg16 r s).toNat : Int) s := rfl
      simp only [transfer, readReg16_withSchedule, hm]
      cases memRead p ((readReg16 r s).toNat : Int) s with
      | ok v => simp [writeReg8_withSchedule, OpResult.map]
      | error e => rfl
    | reg16 n => rfl
    | mem r' => rfl

theorem writeResult_withSchedule (t : Nat) (q : Queue) (n : Reg8) (r : ByteResult) (s : State) :
    writeResult n r (s.withSchedule t q) = (writeResult n r s).withSchedule t q := by
  simp only [writeResult, writeReg8_withSchedule]

/-- Every effect but the next boundary neither reads nor writes the tick counter and the queue. -/
theorem runEffect_withSchedule (p : Params) (t : Nat) (q : Queue) (e : Effect) (s : State) (h : e ≠ .fde) :
    runEffect p e (s.withSchedule t q) = (runEffect p e s).map (State.withSchedule t q) := by
  cases e with
  | fde => exact absurd rfl h
  | incPC => exact setPC_withSchedule p t q _ s
  | inc8 r => simp [runEffect, effectInc8, writeResult_withSchedule, OpResult.map]
  | dec8 r => simp [runEffect, effectDec8, writeResult_withSchedule, OpResult.map]
  | inc16 rr => simp [runEffect, effectInc16, writeReg16_withSchedule]
  | dec16 rr => simp [runEffect, effectDec16, writeReg16_withSchedule]
  | alu op n => simp [runEffect, effectAlu, writeResult_withSchedule, OpResult.map]
  | rotA op => simp [runEffect, effectRotA, writeResult_withSchedule, OpResult.map]
  | cb op n => simp [runEffect, effectCb, writeResult_withSchedule, OpResult.map]
  | jumpRel => exact setPC_withSchedule p t q _ s
  | pushPC =>
    by_cases hc : p.callStackCapacity ≤ s.callStack.length <;>
      simp [runEffect, pushPC, push, State.withSchedule, hc, OpResult.map]
  | popPC =>
    have hs : (s.withSchedule t q).callStack = s.callStack := rfl
    simp only [runEffect, popPC, hs, setPC_withSchedule]
    cases s.callStack.getLast? with
    | none => rfl
    | some w => rcases setPC_cases p w.toNat s with ⟨_, _, h3⟩ | ⟨_, h3⟩ <;> simp only [h3] <;> rfl
  | clearFB => rfl

/-- Every micro-operation but the next boundary neither reads nor writes the tick counter and the queue. -/
theorem runOp_withSchedule (p : Params) (t : Nat) (q : Queue) (op : MicroOp) (s : State)
    (h : op ≠ .effect .fde) :
    runOp p op (s.withSchedule t q) = (runOp p op s).map (State.withSchedule t q) := by
  cases op with
  | transfer src dst => exact transfer_withSchedule p t q src dst s
  | effect e => exact runEffect_withSchedule p t q e s fun he => h (by rw [he])

/-! ### A plan executed in order -/

/-- The micro-operations of a plan executed one after another: the first error, at offset `k`, is taken at tick
`now + k`; without one the run ends at the next boundary, `now + dur`, with that boundary pending. -/
def runPlan (p : Params) (now dur : Nat) : List (Nat × MicroOp) → State → StepOutcome
  | [], s => .next (s.withSchedule (now + dur) [(now + dur, .effect .fde)])
  | (k, op) :: ops, s =>
    match runOp p op s with
    | .done s' => runPlan p now dur ops s'
    | .raised e s' => .next { s'.withSchedule (now + k + 1) [] with fault := some e }
    | .refused r => .refused r

/-- The run of a plan does not depend on the tick and the queue it starts with. -/
theorem runPlan_withSchedule (p : Params) (now dur t : Nat) (q : Queue) (ops : List (Nat × MicroOp)) (s : State)
    (h : ∀ x ∈ ops, x.2 ≠ .effect .fde) :
    runPlan p now dur ops (s.withSchedule t q) = runPlan p now dur ops s := by
  induction ops generalizing s with
  | nil => rfl
  | cons x ops ih =>
    obtain ⟨k, op⟩ := x
    have hop := h (k, op) (by simp)
    simp only [runPlan, runOp_withSchedule p t q op s hop]
    cases runOp p op s with
    | done s' => exact ih s' fun x hx => h x (by simp [hx])
    | raised e s' => rfl
    | refused r => rfl

/-- The operations of one tick and then the rest of the plan. -/
theorem runPlan_append (p : Params) (now dur k : Nat) (due rest : List (Nat × MicroOp)) (s : State)
    (h : ∀ x ∈ due, x.1 = k) :
    runPlan p now dur (due ++ rest) s =
      match runOps p (due.map (·.2)) s with
      | .done s' => runPlan p now dur rest s'
      | .raised e s' => .next { s'.withSchedule (now + k + 1) [] with fault := some e }
      | .refused r => .refused r := by
  induction due generalizing s with
  | nil => rfl
  | cons x due ih =>
    obtain ⟨k', op⟩ := x
    obtain rfl : k' = k := h (k', op) (by simp)
    simp only [List.cons_append, runPlan, List.map_cons, runOps]
    cases runOp p op s with
    | done s' => exact ih s' fun x hx => h x (by simp [hx])
    | raised e s' => rfl
    | refused r => rfl

/-- No micro-operation but the next boundary latches an error or clears `SEEDED`. -/
theorem runOp_keeps {p : Params} {op : MicroOp} {s s' : State} (h : op ≠ .effect .fde)
    (hs : runOp p op s = .done s') : s'.fault = s.fault ∧ s'.seeded = s.seeded := by
  cases op with
  | transfer src dst =>
    cases src <;> cases dst <;> simp only [runOp, transfer] at hs
    · cases hs; simp
    · cases hs
    · next m r =>
      rcases memWrite_cases p (readReg16 r s).toNat (readReg8 m s) s with ⟨_, _, _, e⟩ | ⟨_, e⟩ <;>
        rw [e] at hs <;> cases hs
      exact ⟨rfl, rfl⟩
    · cases hs
    · next m n =>
      cases n <;> simp only [writeReg16] at hs
      · rcases setPC_cases p (readReg16 m s).toNat s with ⟨_, _, e⟩ | ⟨_, e⟩ <;> rw [e] at hs <;> cases hs
        exact ⟨rfl, rfl⟩
      · rcases setSP_cases p (readReg16 m s).toNat s with ⟨_, _, e⟩ | ⟨_, e⟩ <;> rw [e] at hs <;> cases hs
        exact ⟨rfl, rfl⟩
      all_goals cases hs; exact ⟨rfl, rfl⟩
    · cases hs
    · next r n =>
      rcases memRead_cases p (readReg16 r s).toNat s with ⟨_, _, e⟩ | ⟨_, e⟩ <;> simp only [e] at hs <;> cases hs
      simp
    · cases hs
    · cases hs
  | effect e =>
    cases e with
    | fde => exact absurd rfl h
    | incPC =>
      rcases setPC_cases p ((s.pc.toNat : Int) + 1) s with ⟨_, _, e⟩ | ⟨_, e⟩ <;>
        simp only [runOp, runEffect, incPC, e] at hs <;> cases hs
      exact ⟨rfl, rfl⟩
    | jumpRel =>
      rcases setPC_cases p ((s.pc.toNat : Int) + sext8 (readReg8 .tl s)) s with ⟨_, _, e⟩ | ⟨_, e⟩ <;>
        simp only [runOp, runEffect, jumpRel, e] at hs <;> cases hs
      exact ⟨rfl, rfl⟩
    | inc8 r => cases hs; exact ⟨by simp [effectInc8], by simp [effectInc8]⟩
    | dec8 r => cases hs; exact ⟨by simp [effectDec8], by simp [effectDec8]⟩
    | inc16 rr =>
      cases rr <;> simp only [runOp, runEffect, effectInc16, rpCell, writeReg16] at hs
      case sp =>
        rcases setSP_cases p (inc16Result (readReg16 .sp s)).toNat s with ⟨_, _, e⟩ | ⟨_, e⟩ <;>
          rw [e] at hs <;> cases hs
        exact ⟨rfl, rfl⟩
      all_goals cases hs; exact ⟨rfl, rfl⟩
    | dec16 rr =>
      cases rr <;> simp only [runOp, runEffect, effectDec16, rpCell, writeReg16] at hs
      case sp =>
        rcases setSP_cases p (dec16Result (readReg16 .sp s)).toNat s with ⟨_, _, e⟩ | ⟨_, e⟩ <;>
          rw [e] at hs <;> cases hs
        exact ⟨rfl, rfl⟩
      all_goals cases hs; exact ⟨rfl, rfl⟩
    | alu op n => cases hs; exact ⟨by simp [effectAlu], by simp [effectAlu]⟩
    | rotA op => cases hs; exact ⟨by simp [effectRotA], by simp [effectRotA]⟩
    | cb op n => cases hs; exact ⟨by simp [effectCb], by simp [effectCb]⟩
    | pushPC =>
      rcases push_cases p s.pc s with ⟨_, e⟩ | ⟨_, e⟩ <;> simp only [runOp, runEffect, pushPC, e] at hs <;> cases hs
      exact ⟨rfl, rfl⟩
    | popPC =>
      rcases popPC_cases p s with ⟨_, e⟩ | ⟨_, _, _, _, e⟩ | ⟨_, _, _, _, e⟩ <;>
        simp only [runOp, runEffect, e] at hs <;> cases hs
      exact ⟨rfl, rfl⟩
    | clearFB => cases hs; exact ⟨rfl, rfl⟩

theorem runOps_keeps {p : Params} {ops : List MicroOp} {s s' : State} (h : ∀ x ∈ ops, x ≠ .effect .fde)
    (hs : runOps p ops s = .done s') : s'.fault = s.fault ∧ s'.seeded = s.seeded := by
  induction ops generalizing s with
  | nil => cases hs; exact ⟨rfl, rfl⟩
  | cons op ops ih =>
    rw [runOps] at hs
    cases hr : runOp p op s with
    | done s1 =>
      rw [hr] at hs
      have h1 := runOp_keeps (h op (by simp)) hr
      have h2 := ih (fun x hx => h x (by simp [hx])) hs
      exact ⟨h2.1.trans h1.1, h2.2.trans h1.2⟩
    | raised e s1 => rw [hr] at hs; cases hs
    | refused r => rw [hr] at hs; cases hs

/-- Operations other than the next boundary, run from another schedule. -/
theorem runOps_withSchedule (p : Params) (t : Nat) (q : Queue) (ops : List MicroOp) (s : State)
    (h : ∀ x ∈ ops, x ≠ .effect .fde) :
    runOps p ops (s.withSchedule t q) = (runOps p ops s).map (State.withSchedule t q) := by
  induction ops generalizing s with
  | nil => rfl
  | cons op ops ih =>
    simp only [runOps, runOp_withSchedule p t q op s (h op (by simp))]
    cases runOp p op s with
    | done s' => exact ih s' fun x hx => h x (by simp [hx])
    | raised e s' => rfl
    | refused r => rfl

/-! ### The tick loop plays a plan -/

/-- A faulted core stays as it is, however many ticks pass (spec/60_exceptions.md R327). -/
theorem ticks_of_faulted {p : Params} (n : Nat) {s : State} (h : s.fault ≠ none) : ticks p n s = .next s := by
  have hf : s.faulted = true := by simpa [State.faulted, Option.isSome_iff_ne_none] using h
  induction n with
  | zero => rfl
  | succ n ih => simp only [ticks, tick, hf, if_true, ih]

/-- From a state in the middle of an instruction whose boundary was `now` and whose remaining plan is `ops`, the ticks
that are left of its duration execute that plan. -/
theorem ticks_eq_runPlan (p : Params) (now dur : Nat) (n : Nat) (ops : List (Nat × MicroOp)) (s : State)
    (hnow : now ≤ s.tickCount) (hn : s.tickCount + n = now + dur) (hf : s.fault = none) (hs : s.seeded = true)
    (hq : s.queue = atTicks now ops ++ [(now + dur, .effect .fde)])
    (ho : ops.Pairwise fun x y => x.1 ≤ y.1)
    (hk : ∀ x ∈ ops, s.tickCount ≤ now + x.1 ∧ x.1 < dur ∧ x.2 ≠ .effect .fde) :
    ticks p n s = runPlan p now dur ops s := by
  induction n generalizing ops s with
  | zero =>
    have : ops = [] := by
      cases ops with
      | nil => rfl
      | cons x ops => have := hk x (by simp); omega
    subst this
    simp only [ticks, runPlan, State.withSchedule]
    rw [← hn, Nat.add_zero] at *
    simp only [atTicks, List.map_nil, List.nil_append] at hq
    rw [← hq]
  | succ n ih =>
    obtain ⟨due, rest, hdr, hdue, hrest⟩ :
        ∃ due rest, ops = due ++ rest ∧ (∀ x ∈ due, now + x.1 = s.tickCount) ∧
          (∀ x ∈ rest, now + x.1 ≠ s.tickCount) := by
      refine ⟨ops.filter fun x => x.1 == s.tickCount - now, ops.filter fun x => x.1 != s.tickCount - now, ?_, ?_, ?_⟩
      · exact (due_append_rest ho fun x hx => by have := hk x hx; omega).symm
      · intro x hx
        have hx' := List.mem_filter.1 hx
        have := hk x hx'.1
        have h2 : x.1 = s.tickCount - now := by simpa using hx'.2
        omega
      · intro x hx
        have hx' := List.mem_filter.1 hx
        have h2 : x.1 ≠ s.tickCount - now := by simpa using hx'.2
        omega
    have hdueAt : dueAt s.tickCount s.queue = due.map (·.2) := by
      rw [hq, hdr]
      have h1 : (atTicks now due).filter (fun x => x.1 == s.tickCount) = atTicks now due := by
        simp only [atTicks, List.filter_eq_self, List.mem_map, forall_exists_index, and_imp, beq_iff_eq]
        rintro x y hy rfl; exact hdue y hy
      have h2 : (atTicks now rest).filter (fun x => x.1 == s.tickCount) = [] := by
        simp only [atTicks, List.filter_eq_nil_iff, List.mem_map, forall_exists_index, and_imp, beq_iff_eq]
        rintro x y hy rfl; exact hrest y hy
      have h3 : (now + dur == s.tickCount) = false := by simp; omega
      have h4 : atTicks now (due ++ rest) = atTicks now due ++ atTicks now rest := by simp [atTicks]
      rw [dueAt, h4, List.filter_append, List.filter_append, h1, h2]
      simp [h3, atTicks]
    have hnotDue : notDueAt s.tickCount s.queue = atTicks now rest ++ [(now + dur, .effect .fde)] := by
      rw [hq, hdr]
      have h1 : (atTicks now due).filter (fun x => x.1 != s.tickCount) = [] := by
        simp only [atTicks, List.filter_eq_nil_iff, List.mem_map, forall_exists_index, and_imp, bne_iff_ne,
          ne_eq, not_not]
        rintro x y hy rfl; exact hdue y hy
      have h2 : (atTicks now rest).filter (fun x => x.1 != s.tickCount) = atTicks now rest := by
        simp only [atTicks, List.filter_eq_self, List.mem_map, forall_exists_index, and_imp, bne_iff_ne]
        rintro x y hy rfl; exact hrest y hy
      have h3 : (now + dur != s.tickCount) = true := by simp; omega
      have h4 : atTicks now (due ++ rest) = atTicks now due ++ atTicks now rest := by simp [atTicks]
      rw [notDueAt, h4, List.filter_append, List.filter_append, h1, h2]
      simp [h3]
    have hdueFde : ∀ x ∈ due.map (·.2), x ≠ .effect .fde := by
      intro x hx
      obtain ⟨y, hy, rfl⟩ := List.mem_map.1 hx
      exact (hk y (by rw [hdr]; simp [hy])).2.2
    have hfd : s.faulted = false := by simp [State.faulted, hf]
    have hstate : ({ s with queue := notDueAt s.tickCount s.queue } : State) =
        s.withSchedule s.tickCount (notDueAt s.tickCount s.queue) := rfl
    have htick : tick p s = endTick ((runOps p (due.map (·.2)) s).map
        (State.withSchedule s.tickCount (atTicks now rest ++ [(now + dur, .effect .fde)]))) := by
      have hseed : seed p s = .done s := by simp [seed, hs]
      have hrun : runDue p s = (runOps p (due.map (·.2)) s).map
          (State.withSchedule s.tickCount (atTicks now rest ++ [(now + dur, .effect .fde)])) := by
        rw [runDue, hdueAt, hstate, hnotDue, runOps_withSchedule p _ _ _ s hdueFde]
      simp only [tick, hfd, hseed, hrun, Bool.false_eq_true, if_false]
    have hplan : runPlan p now dur ops s =
        match runOps p (due.map (·.2)) s with
        | .done s' => runPlan p now dur rest s'
        | .raised e s' => .next { s'.withSchedule (s.tickCount + 1) [] with fault := some e }
        | .refused r => .refused r := by
      rcases due with _ | ⟨d, due⟩
      · rw [hdr]; rfl
      · have hd := hdue d (by simp)
        rw [hdr, runPlan_append p now dur d.1 (d :: due) rest s fun x hx => by have := hdue x hx; omega, hd]
    rw [hplan, ticks, htick]
    cases hr : runOps p (due.map (·.2)) s with
    | done s' =>
      have hkeep := runOps_keeps hdueFde hr
      simp only [OpResult.map, endTick]
      rw [ih rest _ (by simp only [State.withSchedule]; omega) (by simp only [State.withSchedule]; omega) (by simp [State.withSchedule, hkeep.1, hf])
        (by simp [State.withSchedule, hkeep.2, hs]) rfl (List.Pairwise.sublist (by rw [hdr]; simp) ho)
        (fun x hx => by
          have h1 := hk x (by rw [hdr]; simp [hx])
          have h2 := hrest x hx
          refine ⟨?_, h1.2⟩
          simp only [State.withSchedule]
          omega)]
      exact runPlan_withSchedule p now dur _ _ rest s' fun x hx => (hk x (by rw [hdr]; simp [hx])).2.2
    | raised e s' =>
      simp only [OpResult.map, endTick]
      rw [ticks_of_faulted n (by simp [takeError])]
      rfl
    | refused r => rfl

/-! ### Instructions -/

/-- Every plan's offsets rise strictly within its duration and no plan holds a boundary (spec/40_pipeline.md R169,
R172). -/
theorem planFor_shape (d : Descriptor) (taken : Bool) :
    (planFor d taken).ops.Pairwise (fun x y => x.1 ≤ y.1) ∧
      ∀ x ∈ (planFor d taken).ops, 3 ≤ x.1 ∧ x.1 < (planFor d taken).dur ∧ x.2 ≠ .effect .fde := by
  cases taken <;> cases d <;> simp [planFor, planNop, planLd16, planLdSP16, planLd8I, planLdRR, planLdHL, planStHL,
    planInc8, planDec8, planInc16, planDec16, planAluR, planAluHL, planAluI, planRotA, planCbR, planCbHL,
    planJumpRel, planNoJump, planJp, planCall, planRet, planPrefix, planCls, immRead, memRd, memWr, internal, move16,
    ticksPerMCycle]

theorem planFor_dur_pos (d : Descriptor) (taken : Bool) : 4 ≤ (planFor d taken).dur := by
  cases d <;> cases taken <;> simp [planFor, planNop, planLd16, planLdSP16, planLd8I, planLdRR, planLdHL, planStHL,
    planInc8, planDec8, planInc16, planDec16, planAluR, planAluHL, planAluI, planRotA, planCbR, planCbHL,
    planJumpRel, planNoJump, planJp, planCall, planRet, planPrefix, planCls]

/-- The queue an instruction issues from an empty one: its increment of `PC`, its plan, the next boundary. -/
theorem issue_queue_of_empty (d : Descriptor) (s : State) (h : s.queue = []) :
    (issue d s).queue = atTicks s.tickCount ((1, .effect .incPC) :: (plan d s).ops) ++
      [(s.tickCount + (plan d s).dur, .effect .fde)] := by
  have hs : (plan d s).ops.Pairwise (fun x y => x.1 ≤ y.1) ∧
      ∀ x ∈ (plan d s).ops, 3 ≤ x.1 ∧ x.1 < (plan d s).dur ∧ x.2 ≠ .effect .fde :=
    planFor_shape d (branchTaken d s.f)
  have hd : 4 ≤ (plan d s).dur := planFor_dur_pos d (branchTaken d s.f)
  rw [issue_queue, h, schedule, scheduleAll_append hs.1]
  · rw [schedule_last]
    · simp [atTicks]
    · intro x hx
      simp only [List.cons_append, List.nil_append, List.mem_cons] at hx
      rcases hx with rfl | hx
      · omega
      · simp only [atTicks, List.mem_map] at hx
        obtain ⟨y, hy, rfl⟩ := hx
        have := hs.2 y hy
        omega
  · intro x hx y hy
    simp only [List.mem_singleton] at hx
    subst hx
    have := hs.2 y hy
    omega

/-- The run of an instruction is its plan, the increment of `PC` first, executed in order from its boundary. -/
theorem runDescriptor_eq_runPlan (d : Descriptor) {s : State} (h : s.fault = none) :
    runDescriptor d s =
      runPlan Params.reference s.tickCount (plan d s).dur ((1, .effect .incPC) :: (plan d s).ops)
        { s with seeded := true, ext := decide (d = .prefixCB) } := by
  have hs : (plan d s).ops.Pairwise (fun x y => x.1 ≤ y.1) ∧
      ∀ x ∈ (plan d s).ops, 3 ≤ x.1 ∧ x.1 < (plan d s).dur ∧ x.2 ≠ .effect .fde :=
    planFor_shape d (branchTaken d s.f)
  have hd : 4 ≤ (plan d s).dur := planFor_dur_pos d (branchTaken d s.f)
  have hfd : s.faulted = false := by simp [State.faulted, h]
  have hp : plan d { s with seeded := true, queue := [] } = plan d s := rfl
  simp only [runDescriptor, hfd]
  have key := ticks_eq_runPlan Params.reference s.tickCount (plan d s).dur ((plan d s).dur - 1)
    ((1, .effect .incPC) :: (plan d s).ops)
    { issue d { s with seeded := true, queue := [] } with
      tickCount := (issue d { s with seeded := true, queue := [] }).tickCount + 1 }
    (by simp only [issue_tickCount]; omega) (by simp only [issue_tickCount]; omega) h rfl
    (issue_queue_of_empty d { s with seeded := true, queue := [] } rfl)
    (List.pairwise_cons.2 ⟨fun x hx => by have := hs.2 x hx; omega, hs.1⟩)
    (by
      intro x hx
      simp only [issue_tickCount]
      rcases List.mem_cons.1 hx with rfl | hx
      · exact ⟨Nat.le_refl _, by omega, by simp⟩
      · have := hs.2 x hx
        exact ⟨by omega, this.2.1, this.2.2⟩)
  simp only [Bool.false_eq_true, if_false]
  rw [key]
  exact runPlan_withSchedule Params.reference s.tickCount (plan d s).dur (s.tickCount + 1)
    (issue d { s with seeded := true, queue := [] }).queue _ { s with seeded := true, ext := decide (d = .prefixCB) }
    (by
      intro x hx
      rcases List.mem_cons.1 hx with rfl | hx
      · simp
      · exact (hs.2 x hx).2.2)

/-- A faulted core runs no instruction (spec/60_exceptions.md R327). -/
theorem runDescriptor_of_faulted (d : Descriptor) {s : State} (h : s.fault ≠ none) : runDescriptor d s = .next s := by
  have hf : s.faulted = true := by simpa [State.faulted, Option.isSome_iff_ne_none] using h
  simp only [runDescriptor, hf, if_true]

/-- The meaning of a table row is the run of its descriptor. -/
theorem exec_eq_runDescriptor (i : Instr) (s : State) : exec i s = runDescriptor i.descriptor s := by
  cases i <;> rfl

/-- The meaning of a table row is its plan executed in order from its boundary. -/
theorem exec_eq_runPlan (i : Instr) {s : State} (h : s.fault = none) :
    exec i s =
      runPlan Params.reference s.tickCount (plan i.descriptor s).dur
        ((1, .effect .incPC) :: (plan i.descriptor s).ops)
        { s with seeded := true, ext := decide (i.descriptor = .prefixCB) } :=
  (exec_eq_runDescriptor i s).trans (runDescriptor_eq_runPlan i.descriptor h)

end Sys2Proof.Machine
end

