-- ==== Sys2Proof/Laws/Slots.lean ====
section
/-! SUPPORT. The timing slots of spec/40_pipeline.md R172 at the reference parameters: what each does to the state as a
plan runs, so that a proof about an instruction rewrites its slots one after another. -/

namespace Sys2Proof.Machine

/-! ### Bytes and addresses -/

/-- `{h, l}` is the concatenation of the bytes (spec/00_scope.md R10). -/
theorem joinBytes_eq_append (h l : Byte) : joinBytes h l = h ++ l := by
  have h1 := l.isLt
  apply BitVec.eq_of_toNat_eq
  rw [toNat_joinBytes, BitVec.toNat_append, Nat.shiftLeft_eq]
  have h2 : h.toNat * 2 ^ 8 ||| l.toNat = h.toNat * 2 ^ 8 + l.toNat := by
    rw [Nat.mul_comm]; exact (Nat.two_pow_add_eq_or_of_lt h1 _).symm
  rw [h2]; rfl

theorem extract_hi_append (h l : Byte) : (h ++ l : Word).extractLsb' 8 8 = h := by
  rw [← joinBytes_eq_append]; exact hiByte_joinBytes h l

theorem extract_lo_append (h l : Byte) : (h ++ l : Word).extractLsb' 0 8 = l := by
  rw [← joinBytes_eq_append]; exact loByte_joinBytes h l

theorem hlWord_toNat (s : State) : s.hlWord.toNat = s.hlAddress := by
  rw [State.hlWord, ← joinBytes_eq_append, toNat_joinBytes, State.hlAddress]

/-- An 8-bit name reads as its cell. -/
theorem readReg8_eq_cell (n : Reg8) (s : State) : readReg8 n s = s.cell n := by cases n <;> rfl

/-- A 16-bit name reads as its cell or as the two cells of its pair. -/
theorem readReg16_eq_wide (n : Reg16) (s : State) : readReg16 n s = s.wide n := by
  cases n <;> simp only [readReg16, joinBytes_eq_append, readReg8_eq_cell] <;> rfl

/-- Writing an 8-bit name writes its cell and nothing else. -/
theorem writeReg8_eq_setCell (n : Reg8) (v : Byte) (s : State) : writeReg8 n v s = s.setCell n v := by cases n <;> rfl

theorem readReg16_hl (s : State) : readReg16 .hl s = s.hlWord := joinBytes_eq_append s.h s.l

theorem toNat_add_one {w : Word} (h : w.toNat + 1 < 0x10000) : (w + 1).toNat = w.toNat + 1 := by bv_omega
theorem toNat_add_two {w : Word} (h : w.toNat + 2 < 0x10000) : (w + 2).toNat = w.toNat + 2 := by bv_omega

theorem add_one_add_one (w : Word) : w + 1 + 1 = w + 2 := by bv_omega
theorem add_two_add_one (w : Word) : w + 2 + 1 = w + 3 := by bv_omega

/-! ### One micro-operation of a plan -/

theorem runPlan_done {p : Params} {now dur k : Nat} {op : MicroOp} {ops : List (Nat × MicroOp)} {s t : State}
    (h : runOp p op s = .done t) : runPlan p now dur ((k, op) :: ops) s = runPlan p now dur ops t := by
  rw [runPlan, h]

theorem runPlan_raised {p : Params} {now dur k : Nat} {op : MicroOp} {ops : List (Nat × MicroOp)} {s t : State}
    {e : CoreError} (h : runOp p op s = .raised e t) :
    runPlan p now dur ((k, op) :: ops) s = .next { t with fault := some e, tickCount := now + k + 1, queue := [] } := by
  rw [runPlan, h]; rfl

/-- The end of a plan is the boundary. -/
theorem runPlan_nil (p : Params) (now dur : Nat) (s : State) :
    runPlan p now dur [] s = .next { s with tickCount := now + dur, queue := [(now + dur, .effect .fde)] } := rfl

/-- Reading a byte through a 16-bit name. -/
theorem runOp_readByte (q : Reg16) (n : Reg8) (s : State) :
    runOp Params.reference (.transfer (.mem q) (.reg8 n)) s =
      .done (writeReg8 n (s.mem.read (readReg16 q s).toNat) s) := by
  rw [runOp, transfer, memRead_word]

/-- Storing a byte through a 16-bit name: in the working region it is written, in the program region it raises. -/
theorem runOp_writeByte (q : Reg16) (m : Reg8) (s : State) :
    runOp Params.reference (.transfer (.reg8 m) (.mem q)) s =
      if (readReg16 q s).toNat < 0x8000 then .raised (.outOfRangeAccess (readReg16 q s).toNat) s
      else .done { s with mem := s.mem.write (readReg16 q s).toNat (readReg8 m s) } := by
  rw [runOp, transfer, memWrite_word]

/-- Storing a byte where the bus latch holds the `HL` of a state, in the working region. -/
theorem runOp_writeBus {s t : State} (m : Reg8) (hb : t.bus = s.hlWord) (h : 0x8000 ≤ s.hlAddress) :
    runOp Params.reference (.transfer (.reg8 m) (.mem .bus)) t =
      .done { t with mem := t.mem.write s.hlAddress (readReg8 m t) } := by
  have ha : (readReg16 .bus t).toNat = s.hlAddress := by
    rw [← hlWord_toNat, ← hb]; rfl
  rw [runOp_writeByte, ha, if_neg (by omega)]

/-- Storing a byte where the bus latch holds the `HL` of a state, in the program region. -/
theorem runOp_writeBus_program {s t : State} (m : Reg8) (hb : t.bus = s.hlWord) (h : s.hlAddress < 0x8000) :
    runOp Params.reference (.transfer (.reg8 m) (.mem .bus)) t = .raised (.outOfRangeAccess s.hlAddress) t := by
  have ha : (readReg16 .bus t).toNat = s.hlAddress := by
    rw [← hlWord_toNat, ← hb]; rfl
  rw [runOp_writeByte, ha, if_pos h]

theorem runOp_moveBus (q : Reg16) (s : State) :
    runOp Params.reference (move16 q .bus) s = .done { s with bus := readReg16 q s } := rfl

theorem runOp_movePC (q : Reg16) (s : State) :
    runOp Params.reference (move16 q .pc) s = .done { s with pc := readReg16 q s } := setPC_word _ s

theorem runOp_moveSP (q : Reg16) (s : State) :
    runOp Params.reference (move16 q .sp) s = .done { s with sp := readReg16 q s } := setSP_word _ s

theorem runOp_incPC {s : State} (h : s.pc.toNat + 1 < 0x10000) :
    runOp Params.reference (.effect .incPC) s = .done { s with pc := s.pc + 1 } := incPC_of_lt h

theorem runOp_incPC_top {s : State} (h : s.pc.toNat + 1 = 0x10000) :
    runOp Params.reference (.effect .incPC) s = .raised (.outOfRangeAccess 0x10000) s := incPC_of_top h

/-! ### Slots -/

/-- `ImmRead`: the byte at `PC` reaches its cell, its address the bus latch, and `PC` moves on. -/
theorem runPlan_immRead {now dur m : Nat} {n : Reg8} {ops : List (Nat × MicroOp)} {s : State}
    (h : s.pc.toNat + 1 < 0x10000) :
    runPlan Params.reference now dur (immRead m n ++ ops) s =
      runPlan Params.reference now dur ops
        (writeReg8 n (s.mem.read s.pc.toNat) { s with bus := s.pc, pc := s.pc + 1 }) := by
  simp only [immRead, List.cons_append, List.nil_append]
  rw [runPlan_done (runOp_moveBus .pc s)]
  rw [runPlan_done (runOp_incPC (s := { s with bus := readReg16 .pc s }) h)]
  rw [runPlan_done (runOp_readByte .bus n _)]
  rfl

/-- The operand byte of a two-byte instruction, read from behind its opcode byte. -/
theorem runPlan_operand {now dur : Nat} {n : Reg8} {ops : List (Nat × MicroOp)} {s : State}
    (h : s.pc.toNat + 2 < 0x10000) (seeded ext : Bool) :
    runPlan Params.reference now dur (immRead 1 n ++ ops)
        { s with seeded := seeded, ext := ext, pc := s.pc + 1 } =
      runPlan Params.reference now dur ops
        (writeReg8 n (s.byteAt 1) { s with seeded := seeded, ext := ext, bus := s.pc + 1, pc := s.pc + 2 }) := by
  have h1 := toNat_add_one (w := s.pc) (by omega)
  rw [runPlan_immRead (show (s.pc + 1).toNat + 1 < 0x10000 by omega)]
  simp only [add_one_add_one, h1]
  rfl

/-- The two operand bytes of a three-byte instruction. -/
theorem runPlan_operands {now dur : Nat} {n n' : Reg8} {ops : List (Nat × MicroOp)} {s : State}
    (h : s.pc.toNat + 3 < 0x10000) (seeded ext : Bool) :
    runPlan Params.reference now dur (immRead 1 n ++ (immRead 2 n' ++ ops))
        { s with seeded := seeded, ext := ext, pc := s.pc + 1 } =
      runPlan Params.reference now dur ops (writeReg8 n' (s.byteAt 2)
        (writeReg8 n (s.byteAt 1) { s with seeded := seeded, ext := ext, bus := s.pc + 2, pc := s.pc + 3 })) := by
  have h2 := toNat_add_two (w := s.pc) (by omega)
  rw [runPlan_operand (by omega), runPlan_immRead (by
    rw [writeReg8_pc]; show (s.pc + 2).toNat + 1 < 0x10000; omega)]
  simp only [writeReg8_pc, writeReg8_mem, add_two_add_one, h2]
  cases n <;> rfl

/-- `MemRd` at `HL`. -/
theorem runPlan_memRd {now dur m : Nat} {n : Reg8} {ops : List (Nat × MicroOp)} {s : State} :
    runPlan Params.reference now dur (memRd m .hl n ++ ops) s =
      runPlan Params.reference now dur ops (writeReg8 n (s.mem.read s.hlAddress) { s with bus := s.hlWord }) := by
  simp only [memRd, List.cons_append, List.nil_append]
  rw [runPlan_done (runOp_moveBus .hl s), runPlan_done (runOp_readByte .bus n _)]
  simp only [readReg16_hl]
  rw [show readReg16 .bus { s with bus := s.hlWord } = s.hlWord from rfl, hlWord_toNat]

/-- An instruction whose opcode byte is not the last of memory: its plan runs with `PC` past that byte. -/
theorem exec_of_lt (i : Instr) {s : State} (hf : s.fault = none) (h : s.pc.toNat + 1 < 0x10000) :
    exec i s = runPlan Params.reference s.tickCount (plan i.descriptor s).dur (plan i.descriptor s).ops
      { s with seeded := true, ext := decide (i.descriptor = .prefixCB), pc := s.pc + 1 } := by
  rw [exec_eq_runPlan i hf, runPlan_done (runOp_incPC _)]
  exact h

/-- An instruction whose opcode byte is the last of memory raises at the increment of `PC`. -/
theorem exec_of_top (i : Instr) {s : State} (hf : s.fault = none) (h : s.pc.toNat + 1 = 0x10000) :
    exec i s = .next { s with
      seeded := true, ext := decide (i.descriptor = .prefixCB), fault := some (.outOfRangeAccess 0x10000)
      tickCount := s.tickCount + 1 + 1, queue := [] } := by
  rw [exec_eq_runPlan i hf, runPlan_raised (runOp_incPC_top _)]
  exact h

end Sys2Proof.Machine
end

