-- ==== Sys2Proof/Tests/Slice0.lean ====
section
/-! SUPPORT. The model's own tests: ill-formed terms that each well-formedness check refuses; every row's opcode byte
written out from its family's bit pattern and read by the decoder; one step of instructions on small states, with the
results of spec/95_test_vectors.md; and, for every statement with hypotheses, a concrete state and operands that meet them,
each clause at a boundary value. -/

namespace Sys2Proof.Tests

open Sys2Proof.Machine

set_option Elab.async false

/-! ### Well-formedness -/

/-- The width rule of R152 refuses a byte into a word, a word into a byte or memory, and memory to memory. -/
theorem test_transfer_widths_refused :
    (MicroOp.transfer (.reg8 .a) (.reg16 .bc)).wellFormed = false ∧
    (MicroOp.transfer (.reg16 .bc) (.reg8 .a)).wellFormed = false ∧
    (MicroOp.transfer (.reg16 .bc) (.mem .bus)).wellFormed = false ∧
    (MicroOp.transfer (.mem .bus) (.reg16 .bc)).wellFormed = false ∧
    (MicroOp.transfer (.mem .bus) (.mem .hl)).wellFormed = false := by decide

/-- The contract of R169 refuses a duration of 0, an offset of 0, an offset at the duration, and an ill-formed
transfer. -/
theorem test_plan_refused :
    ({ ops := [], dur := 0 } : Plan).wellFormed = false ∧
    ({ ops := [(0, .effect .incPC)], dur := 4 } : Plan).wellFormed = false ∧
    ({ ops := [(4, .effect .incPC)], dur := 4 } : Plan).wellFormed = false ∧
    ({ ops := [(3, .transfer (.mem .hl) (.mem .bus))], dur := 4 } : Plan).wellFormed = false := by decide

/-- An operand too few, an operand too many, and the prefix on its own are no line (R114, R130). -/
theorem test_line_refused :
    (⟨.ld_bc_d16, [0x32]⟩ : Line).wellFormed = false ∧ (⟨.nop, [0x00]⟩ : Line).wellFormed = false ∧
    (⟨.prefixCB, []⟩ : Line).wellFormed = false ∧ (⟨.ld_bc_d16, [0x32, 0x2D]⟩ : Line).wellFormed = true := by decide

/-- A second prefix, a prefix at another byte, one in the extended table, and none at all are refused (R113). -/
theorem test_rom_prefix_refused :
    Rom.prefixUnique (fun _ b => if b = 0xCC then some .prefixCB else none) 0xCB = false ∧
    Rom.prefixUnique (fun ext b => if !ext && (b = 0xCB || b = 0xCC) then some .prefixCB else none) 0xCB = false ∧
    Rom.prefixUnique (fun _ b => if b = 0xCB then some .prefixCB else none) 0xCB = false ∧
    Rom.prefixUnique (fun _ _ => none) 0xCB = false ∧ Rom.prefixUnique referenceRom 0xCB = true := by decide +kernel

/-- A handler whose plan breaks the contract makes the ROM ill-formed (R113 (c)). -/
theorem test_rom_plan_refused :
    Rom.plansWellFormed (fun _ _ => { ops := [(9, .effect .incPC)], dur := 4 }) referenceRom = false := by
  decide +kernel

/-- Parameters outside their ranges are refused (R7), and so is an ill-formed ROM. -/
theorem test_params_refused :
    ({ Params.reference with memSize := 0 }).inRange = false ∧
    ({ Params.reference with memSize := 0x10001 }).inRange = false ∧
    ({ Params.reference with progEnd := 0x10001 }).inRange = false ∧
    ({ Params.reference with callStackCapacity := 0 }).inRange = false ∧
    ({ Params.reference with memSize := 0x100, progEnd := 0 }).inRange = false ∧ Params.reference.inRange = true ∧
    romWellFormed { rom := fun _ _ => none } = false := by decide +kernel

/-! ### Decoding: every row's opcode byte, written out from the bit pattern of its family rule -/

/-- Each byte is the index of its instruction in the primary or the extended table. -/
def reads (ext : Bool) (rows : List (Byte × Instr)) : Bool := rows.all fun x => decide (referenceRom ext x.1 = some x.2)

/-- `0b00pp0001` (R200), `0x31` (R201). -/
theorem test_decode_ld_d16 : reads false
  [(0b00000001, .ld_bc_d16), (0b00010001, .ld_de_d16), (0b00100001, .ld_hl_d16), (0b00110001, .ld_sp_d16)] = true := by decide +kernel

/-- `0b00yyy110` (R202). -/
theorem test_decode_ld_d8 : reads false
  [(0b00000110, .ld_b_d8), (0b00001110, .ld_c_d8), (0b00010110, .ld_d_d8), (0b00011110, .ld_e_d8),
   (0b00100110, .ld_h_d8), (0b00101110, .ld_l_d8), (0b00111110, .ld_a_d8)] = true := by decide +kernel

/-- `0b01yyyzzz` and `0b01yyy110` with y = 0 (R203, R204). -/
theorem test_decode_ld_b : reads false
  [(0b01000000, .ld_b_b), (0b01000001, .ld_b_c), (0b01000010, .ld_b_d), (0b01000011, .ld_b_e),
   (0b01000100, .ld_b_h), (0b01000101, .ld_b_l), (0b01000111, .ld_b_a), (0b01000110, .ld_b_mhl)] = true := by decide +kernel

/-- `0b01yyyzzz` and `0b01yyy110` with y = 1 (R203, R204). -/
theorem test_decode_ld_c : reads false
  [(0b01001000, .ld_c_b), (0b01001001, .ld_c_c), (0b01001010, .ld_c_d), (0b01001011, .ld_c_e),
   (0b01001100, .ld_c_h), (0b01001101, .ld_c_l), (0b01001111, .ld_c_a), (0b01001110, .ld_c_mhl)] = true := by decide +kernel

/-- `0b01yyyzzz` and `0b01yyy110` with y = 2 (R203, R204). -/
theorem test_decode_ld_d : reads false
  [(0b01010000, .ld_d_b), (0b01010001, .ld_d_c), (0b01010010, .ld_d_d), (0b01010011, .ld_d_e),
   (0b01010100, .ld_d_h), (0b01010101, .ld_d_l), (0b01010111, .ld_d_a), (0b01010110, .ld_d_mhl)] = true := by decide +kernel

/-- `0b01yyyzzz` and `0b01yyy110` with y = 3 (R203, R204). -/
theorem test_decode_ld_e : reads false
  [(0b01011000, .ld_e_b), (0b01011001, .ld_e_c), (0b01011010, .ld_e_d), (0b01011011, .ld_e_e),
   (0b01011100, .ld_e_h), (0b01011101, .ld_e_l), (0b01011111, .ld_e_a), (0b01011110, .ld_e_mhl)] = true := by decide +kernel

/-- `0b01yyyzzz` and `0b01yyy110` with y = 4 (R203, R204). -/
theorem test_decode_ld_h : reads false
  [(0b01100000, .ld_h_b), (0b01100001, .ld_h_c), (0b01100010, .ld_h_d), (0b01100011, .ld_h_e),
   (0b01100100, .ld_h_h), (0b01100101, .ld_h_l), (0b01100111, .ld_h_a), (0b01100110, .ld_h_mhl)] = true := by decide +kernel

/-- `0b01yyyzzz` and `0b01yyy110` with y = 5 (R203, R204). -/
theorem test_decode_ld_l : reads false
  [(0b01101000, .ld_l_b), (0b01101001, .ld_l_c), (0b01101010, .ld_l_d), (0b01101011, .ld_l_e),
   (0b01101100, .ld_l_h), (0b01101101, .ld_l_l), (0b01101111, .ld_l_a), (0b01101110, .ld_l_mhl)] = true := by decide +kernel

/-- `0b01yyyzzz` and `0b01yyy110` with y = 7 (R203, R204). -/
theorem test_decode_ld_a : reads false
  [(0b01111000, .ld_a_b), (0b01111001, .ld_a_c), (0b01111010, .ld_a_d), (0b01111011, .ld_a_e),
   (0b01111100, .ld_a_h), (0b01111101, .ld_a_l), (0b01111111, .ld_a_a), (0b01111110, .ld_a_mhl)] = true := by decide +kernel

/-- `0b01110zzz` (R205). -/
theorem test_decode_st_hl : reads false
  [(0b01110000, .ld_mhl_b), (0b01110001, .ld_mhl_c), (0b01110010, .ld_mhl_d), (0b01110011, .ld_mhl_e),
   (0b01110100, .ld_mhl_h), (0b01110101, .ld_mhl_l), (0b01110111, .ld_mhl_a)] = true := by decide +kernel

/-- `0b00yyy100` and `0b00yyy101` (R220, R221). -/
theorem test_decode_inc_dec : reads false
  [(0b00000100, .inc_b), (0b00001100, .inc_c), (0b00010100, .inc_d), (0b00011100, .inc_e),
   (0b00100100, .inc_h), (0b00101100, .inc_l), (0b00111100, .inc_a), (0b00000101, .dec_b),
   (0b00001101, .dec_c), (0b00010101, .dec_d), (0b00011101, .dec_e), (0b00100101, .dec_h),
   (0b00101101, .dec_l), (0b00111101, .dec_a)] = true := by decide +kernel

/-- `0b00pp0011` and `0b00pp1011` (R222, R223). -/
theorem test_decode_inc_dec_16 : reads false
  [(0b00000011, .inc_bc), (0b00010011, .inc_de), (0b00100011, .inc_hl), (0b00110011, .inc_sp),
   (0b00001011, .dec_bc), (0b00011011, .dec_de), (0b00101011, .dec_hl), (0b00111011, .dec_sp)] = true := by decide +kernel

/-- `0b10yyyzzz` and `0b11yyy110` with y = 0 (R119, R225 to R248). -/
theorem test_decode_add : reads false
  [(0b10000000, .add_a_b), (0b10000001, .add_a_c), (0b10000010, .add_a_d), (0b10000011, .add_a_e),
   (0b10000100, .add_a_h), (0b10000101, .add_a_l), (0b10000111, .add_a_a), (0b10000110, .add_a_mhl),
   (0b11000110, .add_a_d8)] = true := by decide +kernel

/-- `0b10yyyzzz` and `0b11yyy110` with y = 1 (R119, R225 to R248). -/
theorem test_decode_adc : reads false
  [(0b10001000, .adc_a_b), (0b10001001, .adc_a_c), (0b10001010, .adc_a_d), (0b10001011, .adc_a_e),
   (0b10001100, .adc_a_h), (0b10001101, .adc_a_l), (0b10001111, .adc_a_a), (0b10001110, .adc_a_mhl),
   (0b11001110, .adc_a_d8)] = true := by decide +kernel

/-- `0b10yyyzzz` and `0b11yyy110` with y = 2 (R119, R225 to R248). -/
theorem test_decode_sub : reads false
  [(0b10010000, .sub_a_b), (0b10010001, .sub_a_c), (0b10010010, .sub_a_d), (0b10010011, .sub_a_e),
   (0b10010100, .sub_a_h), (0b10010101, .sub_a_l), (0b10010111, .sub_a_a), (0b10010110, .sub_a_mhl),
   (0b11010110, .sub_a_d8)] = true := by decide +kernel

/-- `0b10yyyzzz` and `0b11yyy110` with y = 3 (R119, R225 to R248). -/
theorem test_decode_sbc : reads false
  [(0b10011000, .sbc_a_b), (0b10011001, .sbc_a_c), (0b10011010, .sbc_a_d), (0b10011011, .sbc_a_e),
   (0b10011100, .sbc_a_h), (0b10011101, .sbc_a_l), (0b10011111, .sbc_a_a), (0b10011110, .sbc_a_mhl),
   (0b11011110, .sbc_a_d8)] = true := by decide +kernel

/-- `0b10yyyzzz` and `0b11yyy110` with y = 4 (R119, R225 to R248). -/
theorem test_decode_and : reads false
  [(0b10100000, .and_a_b), (0b10100001, .and_a_c), (0b10100010, .and_a_d), (0b10100011, .and_a_e),
   (0b10100100, .and_a_h), (0b10100101, .and_a_l), (0b10100111, .and_a_a), (0b10100110, .and_a_mhl),
   (0b11100110, .and_a_d8)] = true := by decide +kernel

/-- `0b10yyyzzz` and `0b11yyy110` with y = 5 (R119, R225 to R248). -/
theorem test_decode_xor : reads false
  [(0b10101000, .xor_a_b), (0b10101001, .xor_a_c), (0b10101010, .xor_a_d), (0b10101011, .xor_a_e),
   (0b10101100, .xor_a_h), (0b10101101, .xor_a_l), (0b10101111, .xor_a_a), (0b10101110, .xor_a_mhl),
   (0b11101110, .xor_a_d8)] = true := by decide +kernel

/-- `0b10yyyzzz` and `0b11yyy110` with y = 6 (R119, R225 to R248). -/
theorem test_decode_or : reads false
  [(0b10110000, .or_a_b), (0b10110001, .or_a_c), (0b10110010, .or_a_d), (0b10110011, .or_a_e),
   (0b10110100, .or_a_h), (0b10110101, .or_a_l), (0b10110111, .or_a_a), (0b10110110, .or_a_mhl),
   (0b11110110, .or_a_d8)] = true := by decide +kernel

/-- `0b10yyyzzz` and `0b11yyy110` with y = 7 (R119, R225 to R248). -/
theorem test_decode_cp : reads false
  [(0b10111000, .cp_a_b), (0b10111001, .cp_a_c), (0b10111010, .cp_a_d), (0b10111011, .cp_a_e),
   (0b10111100, .cp_a_h), (0b10111101, .cp_a_l), (0b10111111, .cp_a_a), (0b10111110, .cp_a_mhl),
   (0b11111110, .cp_a_d8)] = true := by decide +kernel

/-- 0x07, 0x0F, 0x17, 0x1F (R260 to R263). -/
theorem test_decode_rotate_a : reads false
  [(0b00000111, .rlca), (0b00001111, .rrca), (0b00010111, .rla), (0b00011111, .rra)] = true := by decide +kernel

/-- R291 to R300. -/
theorem test_decode_control : reads false
  [(0b00011000, .jr_e8), (0b00100000, .jr_nz_e8), (0b00101000, .jr_z_e8), (0b00110000, .jr_nc_e8),
   (0b00111000, .jr_c_e8), (0b11000011, .jp_a16), (0b11001101, .call_a16), (0b11001001, .ret)] = true := by decide +kernel

/-- R310 to R312. -/
theorem test_decode_system : reads false
  [(0b00000000, .nop), (0b11001011, .prefixCB), (0b11010011, .cls)] = true := by decide +kernel

/-- The extended `0b00yyyzzz` with y = 0 (R120, R265 to R280). -/
theorem test_decode_rlc : reads true
  [(0b00000000, .rlc_b), (0b00000001, .rlc_c), (0b00000010, .rlc_d), (0b00000011, .rlc_e),
   (0b00000100, .rlc_h), (0b00000101, .rlc_l), (0b00000111, .rlc_a), (0b00000110, .rlc_mhl)] = true := by decide +kernel

/-- The extended `0b00yyyzzz` with y = 1 (R120, R265 to R280). -/
theorem test_decode_rrc : reads true
  [(0b00001000, .rrc_b), (0b00001001, .rrc_c), (0b00001010, .rrc_d), (0b00001011, .rrc_e),
   (0b00001100, .rrc_h), (0b00001101, .rrc_l), (0b00001111, .rrc_a), (0b00001110, .rrc_mhl)] = true := by decide +kernel

/-- The extended `0b00yyyzzz` with y = 2 (R120, R265 to R280). -/
theorem test_decode_rl : reads true
  [(0b00010000, .rl_b), (0b00010001, .rl_c), (0b00010010, .rl_d), (0b00010011, .rl_e), (0b00010100, .rl_h),
   (0b00010101, .rl_l), (0b00010111, .rl_a), (0b00010110, .rl_mhl)] = true := by decide +kernel

/-- The extended `0b00yyyzzz` with y = 3 (R120, R265 to R280). -/
theorem test_decode_rr : reads true
  [(0b00011000, .rr_b), (0b00011001, .rr_c), (0b00011010, .rr_d), (0b00011011, .rr_e), (0b00011100, .rr_h),
   (0b00011101, .rr_l), (0b00011111, .rr_a), (0b00011110, .rr_mhl)] = true := by decide +kernel

/-- The extended `0b00yyyzzz` with y = 4 (R120, R265 to R280). -/
theorem test_decode_sla : reads true
  [(0b00100000, .sla_b), (0b00100001, .sla_c), (0b00100010, .sla_d), (0b00100011, .sla_e),
   (0b00100100, .sla_h), (0b00100101, .sla_l), (0b00100111, .sla_a), (0b00100110, .sla_mhl)] = true := by decide +kernel

/-- The extended `0b00yyyzzz` with y = 5 (R120, R265 to R280). -/
theorem test_decode_sra : reads true
  [(0b00101000, .sra_b), (0b00101001, .sra_c), (0b00101010, .sra_d), (0b00101011, .sra_e),
   (0b00101100, .sra_h), (0b00101101, .sra_l), (0b00101111, .sra_a), (0b00101110, .sra_mhl)] = true := by decide +kernel

/-- The extended `0b00yyyzzz` with y = 6 (R120, R265 to R280). -/
theorem test_decode_swap : reads true
  [(0b00110000, .swap_b), (0b00110001, .swap_c), (0b00110010, .swap_d), (0b00110011, .swap_e),
   (0b00110100, .swap_h), (0b00110101, .swap_l), (0b00110111, .swap_a), (0b00110110, .swap_mhl)] = true := by decide +kernel

/-- The extended `0b00yyyzzz` with y = 7 (R120, R265 to R280). -/
theorem test_decode_srl : reads true
  [(0b00111000, .srl_b), (0b00111001, .srl_c), (0b00111010, .srl_d), (0b00111011, .srl_e),
   (0b00111100, .srl_h), (0b00111101, .srl_l), (0b00111111, .srl_a), (0b00111110, .srl_mhl)] = true := by decide +kernel
/-- Table words of two bytes, and bytes that are no instruction. -/
theorem test_decode_table_words :
    decodeTableWord 16 0xCB00 = some .rlc_b ∧ decodeTableWord 16 0xCB3F = some .srl_a ∧
    decodeTableWord 16 0xCB40 = none ∧ decodeTableWord 8 0xCB = some .prefixCB ∧ decodeTableWord 8 0xED = none ∧
    decodeTableWord 24 0x2D3201 = some .ld_bc_d16 := by decide +kernel

/-- `JR label` (R129): the operand byte, and a label out of reach. -/
theorem test_jump_offset :
    jumpOffset 0x0103 0x0102 = some 0xFD ∧ jumpOffset 0x0100 0x0107 = some 0x05 ∧ jumpOffset 0x0100 0x0300 = none := by
  decide

/-- Every row encodes to the bytes that decode to it, its operand bytes all ones; and the mnemonic of a row. -/
theorem test_encode :
    encode ⟨.ld_bc_d16, immediate16 0x322D⟩ = [0x01, 0x32, 0x2D] ∧ encode ⟨.swap_a, []⟩ = [0xCB, 0x37] ∧
    encode ⟨.jr_nz_e8, [0xFD]⟩ = [0x20, 0xFD] ∧ Instr.mnemonic .swap_a = "SWAP A" := by decide

/-! ### One step, with the results of spec/95_test_vectors.md -/

/-- A core just constructed with an image at 0x0100, changed by `g`. -/
def boot (image : List Byte) (g : State → State := id) : State :=
  g { State.reset with mem := Memory.writeBytes [] 0x0100 image }

/-- What `f` reads off the state after one step. -/
def after (s : State) {α : Type} (f : State → α) : Option α :=
  match step s with
  | .next t => some (f t)
  | .fault _ => none
  | .refused _ => none

/-- What `f` reads off the state after `n` ticks. -/
def afterTicks (n : Nat) (s : State) {α : Type} (f : State → α) : Option α :=
  match ticks Params.reference n s with
  | .next t => some (f t)
  | .fault _ => none
  | .refused _ => none

/-- Vector L1.1: the source's worked example. -/
theorem test_ld_bc_d16 :
    after (boot [0x01, 0x32, 0x2D]) (fun t => (t.b, t.c, t.pc, t.bus)) = some (0x32, 0x2D, 0x0103, 0x0102) ∧
    after (boot [0x01, 0x32, 0x2D]) (fun t => (t.tickCount, t.queue)) = some (12, [(12, .effect .fde)]) := by
  decide +kernel

/-- Rule R206, tick by tick: `B` is written at tick 7, `C` not before tick 11. -/
theorem test_ld_bc_d16_ticks :
    afterTicks 7 (boot [0x01, 0x32, 0x2D]) (fun t => (t.b, t.bus)) = some (0, 0x0101) ∧
    afterTicks 8 (boot [0x01, 0x32, 0x2D]) (fun t => (t.b, t.pc)) = some (0x32, 0x0102) ∧
    afterTicks 11 (boot [0x01, 0x32, 0x2D]) (fun t => (t.c, t.pc)) = some (0, 0x0103) := by decide +kernel

/-- Vectors LD5 and LD6. -/
theorem test_ld_immediate :
    after (boot [0x31, 0xFF, 0xFE]) (fun t => (t.sp, t.th, t.tl, t.pc)) = some (0xFFFE, 0xFF, 0xFE, 0x0103) ∧
    after (boot [0x3E, 0x2A]) (fun t => (t.a, t.pc, t.tickCount)) = some (0x2A, 0x0102, 8) := by decide +kernel

/-- Vectors LD8, LD10 and LD11: in LD11 the address is latched before the write of `H`. -/
theorem test_ld_register :
    after (boot [0x78] fun s => { s with a := 0x11, b := 0x99 }) (fun t => (t.a, t.b)) = some (0x99, 0x99) ∧
    after (boot [0x7E] fun s => { s with h := 0xC0, mem := s.mem.write 0xC000 0x5A }) (fun t => (t.a, t.bus)) =
      some (0x5A, 0xC000) ∧
    after (boot [0x66] fun s => { s with h := 0xC0, l := 0x12, mem := s.mem.write 0xC012 0x77 })
      (fun t => (t.h, t.l)) = some (0x77, 0x12) := by decide +kernel

/-- Vectors LD12 and LD13: `LD (HL),H` stores the high byte of the address. -/
theorem test_st_hl :
    after (boot [0x77] fun s => { s with h := 0xC0, a := 0x03 }) (fun t => t.mem.read 0xC000) = some 0x03 ∧
    after (boot [0x74] fun s => { s with h := 0xC0, l := 0xDE }) (fun t => t.mem.read 0xC0DE) = some 0xC0 := by
  decide +kernel

/-- Vectors LD14 and LD15: the last byte of the program region and the first of the working region. -/
theorem test_st_hl_region :
    after (boot [0x77] fun s => { s with h := 0x7F, l := 0xFF }) (fun t => (t.fault, t.tickCount, t.queue)) =
      some (some (.outOfRangeAccess 0x7FFF), 8, []) ∧
    after (boot [0x77] fun s => { s with h := 0x80, a := 0x01 }) (fun t => (t.fault, t.mem.read 0x8000)) =
      some (none, 0x01) := by decide +kernel

/-- Vector LD16: the third byte lies beyond memory. -/
theorem test_top_of_memory :
    after (boot [] fun s => { s with pc := 0xFFFD, mem := s.mem.writeBytes 0xFFFD [0x01, 0x11] })
      (fun t => (t.b, t.c, t.pc, t.tickCount, t.fault)) =
      some (0x11, 0, 0xFFFF, 10, some (.outOfRangeAccess 0x10000)) := by decide +kernel

/-- Section 2.3. -/
theorem test_inc_dec :
    after (boot [0x04] fun s => { s with b := 0xFF, f := 0x10 }) (fun t => (t.b, t.f)) = some (0x00, 0xB0) ∧
    after (boot [0x04] fun s => { s with b := 0x0F }) (fun t => (t.b, t.f)) = some (0x10, 0x20) ∧
    after (boot [0x05] fun s => { s with b := 0x01, f := 0x10 }) (fun t => (t.b, t.f)) = some (0x00, 0xD0) ∧
    after (boot [0x05] fun s => { s with b := 0x10 }) (fun t => (t.b, t.f)) = some (0x0F, 0x60) := by decide +kernel

/-- Section 2.4. -/
theorem test_inc_dec_16 :
    after (boot [0x03] fun s => { s with c := 0xFF, f := 0xF0 }) (fun t => (t.b, t.c, t.f)) = some (0x01, 0x00, 0xF0) ∧
    after (boot [0x1B] fun s => { s with f := 0xF0 }) (fun t => (t.d, t.e, t.f)) = some (0xFF, 0xFF, 0xF0) ∧
    after (boot [0x3B] fun s => { s with sp := 0x0100 }) (fun t => t.sp) = some 0x00FF ∧
    after (boot [0x33] fun s => { s with sp := 0xFFFF }) (fun t => (t.sp, t.tickCount)) = some (0x0000, 8) := by
  decide +kernel

/-- An ALU operation `A,B` from `A`, `B` and `F`: the new `A` and `F`. -/
def alu (opcode a b f : Byte) : Option (Byte × Byte) :=
  after (boot [opcode] fun s => { s with a := a, b := b, f := f }) fun t => (t.a, t.f)

/-- Section 2.5, `ADD` and `ADC`. -/
theorem test_add_adc :
    alu 0x80 0x3A 0xC6 0 = some (0x00, 0xB0) ∧ alu 0x80 0x80 0x80 0 = some (0x00, 0x90) ∧
    alu 0x80 0x12 0x34 0x10 = some (0x46, 0x00) ∧ alu 0x88 0xE1 0x0F 0x10 = some (0xF1, 0x20) ∧
    alu 0x88 0xFF 0x00 0x10 = some (0x00, 0xB0) := by decide +kernel

/-- Section 2.5, `SUB`, `SBC` and `CP`. -/
theorem test_sub_sbc_cp :
    alu 0x90 0x3E 0x40 0 = some (0xFE, 0x50) ∧ alu 0x90 0x00 0x01 0x10 = some (0xFF, 0x70) ∧
    alu 0x98 0x3B 0x4F 0x10 = some (0xEB, 0x70) ∧ alu 0x98 0x10 0x0F 0x10 = some (0x00, 0xE0) ∧
    alu 0xB8 0x3C 0x2F 0 = some (0x3C, 0x60) ∧ alu 0xB8 0x00 0xFF 0x10 = some (0x00, 0x70) := by decide +kernel

/-- Section 2.5, `AND`, `XOR` and `OR`. -/
theorem test_logic :
    alu 0xA0 0x5A 0x3F 0x10 = some (0x1A, 0x20) ∧ alu 0xA0 0x5A 0x00 0 = some (0x00, 0xA0) ∧
    alu 0xA8 0xFF 0xFF 0x10 = some (0x00, 0x80) ∧ alu 0xA8 0xFF 0x0F 0 = some (0xF0, 0x00) ∧
    alu 0xB0 0x5A 0x0F 0 = some (0x5F, 0x00) ∧ alu 0xB0 0x00 0x00 0x10 = some (0x00, 0x80) := by decide +kernel

/-- The same values through `(HL)` and `d8` (R226, R227): the operand stays in `TL`. -/
theorem test_alu_forms :
    after (boot [0x86] fun s => { s with a := 0x3A, h := 0xC0, mem := s.mem.write 0xC000 0xC6 })
      (fun t => (t.a, t.f, t.tl, t.tickCount)) = some (0x00, 0xB0, 0xC6, 8) ∧
    after (boot [0xC6, 0xC6] fun s => { s with a := 0x3A }) (fun t => (t.a, t.f, t.tl, t.pc)) =
      some (0x00, 0xB0, 0xC6, 0x0102) := by decide +kernel

/-- Section 2.6: `Z` is cleared even when the result is 0. -/
theorem test_rotate_a :
    alu 0x07 0x85 0 0xE0 = some (0x0B, 0x10) ∧ alu 0x0F 0x3B 0 0xE0 = some (0x9D, 0x10) ∧
    alu 0x17 0x80 0 0xE0 = some (0x00, 0x10) ∧ alu 0x17 0x95 0 0xF0 = some (0x2B, 0x10) ∧
    alu 0x1F 0x81 0 0xE0 = some (0x40, 0x10) := by decide +kernel

/-- An extended operation on `B`, decoded after the prefix. -/
def cb (xop b f : Byte) : Option (Byte × Byte) :=
  after (boot [xop] fun s => { s with b := b, f := f, ext := true }) fun t => (t.b, t.f)

/-- Section 2.7, rotates. -/
theorem test_extended_rotates :
    cb 0x00 0x85 0x60 = some (0x0B, 0x10) ∧ cb 0x08 0x01 0x60 = some (0x80, 0x10) ∧
    cb 0x10 0x80 0x60 = some (0x00, 0x90) ∧ cb 0x10 0x85 0x70 = some (0x0B, 0x10) ∧
    cb 0x18 0x01 0x60 = some (0x00, 0x90) ∧ cb 0x18 0x00 0x70 = some (0x80, 0x00) := by decide +kernel

/-- Section 2.7, shifts and `SWAP`. -/
theorem test_extended_shifts :
    cb 0x20 0x85 0x70 = some (0x0A, 0x10) ∧ cb 0x28 0x80 0x60 = some (0xC0, 0x00) ∧
    cb 0x30 0x85 0x70 = some (0x58, 0x00) ∧ cb 0x38 0x85 0x60 = some (0x42, 0x10) := by decide +kernel

/-- R266 and the corner case of section 2.7: the store in the working region, and the trap in the program region. -/
theorem test_extended_memory :
    after (boot [0x06] fun s => { s with ext := true, h := 0xC0, f := 0x10, mem := s.mem.write 0xC000 0x85 })
      (fun t => (t.mem.read 0xC000, t.f, t.tickCount)) = some (0x0B, 0x10, 12) ∧
    after (boot [0x06, 0, 0, 0, 0x85] fun s => { s with ext := true, h := 0x01, l := 0x04 })
      (fun t => (t.mem.read 0x0104, t.tl, t.f, t.fault)) =
      some (0x85, 0x0B, 0x10, some (.outOfRangeAccess 0x0104)) := by decide +kernel

/-- Vectors S2, S3 and S4: the prefix takes a step of its own and does not chain. -/
theorem test_prefix :
    after (boot [0xCB, 0x37]) (fun t => (t.ext, t.pc, t.tickCount)) = some (true, 0x0101, 4) ∧
    afterTicks 8 (boot [0xCB, 0x37] fun s => { s with a := 0x85 }) (fun t => (t.a, t.f, t.pc, t.ext)) =
      some (0x58, 0x00, 0x0102, false) ∧
    afterTicks 5 (boot [0xCB, 0xCB]) (fun t => (t.fault, t.ext)) = some (some (.unknownOpcode 0xCB 0x0101), false) ∧
    afterTicks 5 (boot [0xCB, 0x40]) (fun t => (t.fault, t.tickCount)) = some (some (.unknownOpcode 0x40 0x0101), 5) := by
  decide +kernel

/-- Vectors CF1, CF3 and CF5. -/
theorem test_jr :
    after (boot [0x18, 0x05]) (fun t => (t.pc, t.tl, t.tickCount)) = some (0x0107, 0x05, 12) ∧
    after (boot [0x18, 0x80]) (fun t => t.pc) = some 0x0082 ∧
    after (boot [] fun s => { s with pc := 0x0010, mem := s.mem.writeBytes 0x0010 [0x18, 0x80] })
      (fun t => (t.pc, t.fault, t.tickCount)) = some (0x0012, some (.outOfRangeAccess (-110)), 12) := by decide +kernel

/-- Vectors CF6 and CF6': each condition true and false. -/
theorem test_jr_cc :
    after (boot [0x20, 0x10]) (fun t => (t.pc, t.tickCount)) = some (0x0112, 12) ∧
    after (boot [0x20, 0x10] fun s => { s with f := 0x80 }) (fun t => (t.pc, t.tl, t.tickCount)) =
      some (0x0102, 0x10, 8) ∧
    after (boot [0x28, 0x10] fun s => { s with f := 0x80 }) (fun t => t.pc) = some 0x0112 ∧
    after (boot [0x30, 0x10] fun s => { s with f := 0x10 }) (fun t => t.pc) = some 0x0102 ∧
    after (boot [0x38, 0x10] fun s => { s with f := 0x10 }) (fun t => t.pc) = some 0x0112 := by decide +kernel

/-- Vectors CF7, CF9 and CF10. -/
theorem test_jp_call_ret :
    after (boot [0xC3, 0x12, 0x34]) (fun t => (t.pc, t.th, t.tl, t.tickCount)) = some (0x1234, 0x12, 0x34, 16) ∧
    after (boot [0xCD, 0x02, 0x00]) (fun t => (t.callStack, t.pc, t.sp)) = some ([0x0103], 0x0200, 0) ∧
    after (boot [0xC9] fun s => { s with callStack := [0x1111, 0x0105] }) (fun t => (t.callStack, t.pc)) =
      some ([0x1111], 0x0105) ∧
    after (boot [0xC9]) (fun t => (t.fault, t.pc, t.tickCount)) = some (some .callStackUnderflow, 0x0101, 16) := by
  decide +kernel

/-- Program 5's last call: at capacity the push raises and the jump does not happen. -/
theorem test_call_overflow :
    after (boot [0xCD, 0x01, 0x00] fun s => { s with callStack := List.replicate 16 0x0103 })
      (fun t => (t.fault, t.pc, t.callStack.length, t.tickCount)) =
      some (some .callStackOverflow, 0x0103, 16, 20) := by decide +kernel

/-- Vectors S1, S5 and S6. -/
theorem test_system :
    after (boot [0x00]) (fun t => (t.pc, t.tickCount)) = some (0x0101, 4) ∧
    after (boot [0xD3] fun s => { s with fb := Vector.replicate _ (Vector.replicate _ true) })
      (fun t => decide (t.fb = FrameBuffer.clear)) = some true ∧
    after (boot [] fun s => { s with pc := 0xFFFF }) (fun t => (t.fault, t.pc, t.tickCount)) =
      some (some (.outOfRangeAccess 0x10000), 0xFFFF, 2) := by decide +kernel

/-- Vectors E1 to E3: an unknown opcode, and the host's skip. -/
theorem test_unknown_opcode :
    after (boot [0x76]) (fun t => (t.fault, t.pc, t.tickCount)) =
      some (some (.unknownOpcode 0x76 0x0100), 0x0100, 1) ∧
    after (boot [0x76, 0x3C] fun s =>
        resume { s with pc := 0x0101, fault := some (.unknownOpcode 0x76 0x0100), seeded := true, tickCount := 1 })
      (fun t => (t.a, t.pc, t.tickCount)) = some (0x01, 0x0102, 5) := by decide +kernel

/-- Vectors Q5 and Q6: a host write between ticks is seen by what has not read yet, and not by the branch. -/
theorem test_host_between_ticks :
    (match ticks Params.reference 1 (boot [0x20, 0x10]) with
      | .next s => afterTicks 11 { s with f := 0x80 } (fun t => t.pc)
      | .fault _ => none
      | .refused _ => none) = some 0x0112 ∧
    (match ticks Params.reference 5 (boot [0x46] fun s => { s with h := 0xC0, mem := s.mem.write 0xC000 0x11 }) with
      | .next s => afterTicks 3 { s with mem := s.mem.write 0xC000 0x22 } (fun t => t.b)
      | .fault _ => none
      | .refused _ => none) = some 0x22 := by decide +kernel

/-- The reply of a host operation. -/
def reply (p : Params) (op : HostOp) (s : State) : Option Reply :=
  match hostStep p op s with
  | .next r => some r.reply
  | .fault _ => none
  | .refused _ => none

/-- Vectors E4, E6, E10 and E11. -/
theorem test_host_errors :
    reply Params.reference (.write 0x0100 0x00) (boot []) = some (.err (.outOfRangeAccess 0x0100)) ∧
    reply { Params.reference with memSize := 0x8000, progEnd := 0x4000 } (.set16 .sp 0x8000) (boot []) =
      some (.err (.outOfRangeAccess 0x8000)) ∧
    reply Params.reference (.loadRom [0x00] 0x0200) { boot [] with seeded := true, tickCount := 1 } = none ∧
    reply Params.reference (.loadRom (List.replicate 80 0x00) 0x7FD0) (boot []) =
      some (.err (.outOfRangeAccess 0x8000)) := by decide +kernel

/-- Vectors E5 and E8. -/
theorem test_host_set_and_timers :
    readReg8 .f (writeReg8 .f 0xFF (boot [])) = 0xF0 ∧
    (timerTick { boot [] with dt := 2, st := 1 }).dt = 1 ∧ (timerTick { boot [] with dt := 2, st := 1 }).st = 0 ∧
    soundOn (timerTick { boot [] with dt := 2, st := 1 }) = false ∧ (timerTick (boot [])).dt = 0 := by decide +kernel

/-- A table word stored where the step fetches runs as the first instruction after reset. -/
theorem test_withFetchWord :
    after (State.withFetchWord State.reset 8 0x3C) (fun t => (t.a, t.pc)) = some (0x01, 0x0101) ∧
    after (State.withFetchWord State.reset 16 0xCB37) (fun t => (t.f, t.pc)) = some (0x80, 0x0101) := by decide +kernel

/-- The end of a launch, with `PC` and the tick counter there. -/
def launchEnd (p : Params) (image : List Byte) (base : Int) (n : Nat) : Option (RunEnd × Word × Nat) :=
  match launch p image base n with
  | .next (.ended e t) => some (e, t.pc, t.tickCount)
  | _ => none

/-- R386: the idle loop is an end before its fetch, an unknown opcode is a fault end, and a budget runs out. -/
theorem test_launch_ends :
    launchEnd Params.reference [0x18, 0xFE] 0x0100 20 = some (.idleEnd, 0x0100, 12) ∧
    launchEnd Params.reference [0x76] 0x0100 5 = some (.faultEnd (.unknownOpcode 0x76 0x0100), 0x0100, 1) ∧
    launchEnd Params.reference [0x00] 0x0100 3 = some (.budgetEnd, 0x0101, 3) := by decide +kernel

/-- The reference ROM with a second prefix, at 0xCC. -/
def twoPrefixes : Params :=
  { rom := fun ext b => if !ext && b = 0xCC then some .prefixCB else referenceRom ext b }

/-- A decode ROM with a second prefix is refused, and so is every launch and every run of it (R113 (b), R335). -/
theorem test_launch_refused :
    launch twoPrefixes [0x00] 0x0100 3 = .refused .illFormedRom ∧
    runFromConstruction twoPrefixes [.tick] = .refused .illFormedRom := by
  have h : construct twoPrefixes = .refused .illFormedRom := by
    rcases construct_cases twoPrefixes with ⟨_, h, _⟩ | ⟨_, _, h⟩ | ⟨h, _⟩
    · exact absurd h (by decide +kernel)
    · exact h
    · exact absurd h (by decide)
  exact ⟨launch_of_construct_refused h _ _ _, runFromConstruction_of_construct_refused h _⟩

/-! ### Witnesses: for each statement with hypotheses, a state and operands that meet them -/

/-- A core just constructed with `PC` and `HL` moved, and the two bytes after `PC`. -/
def wit (pc : Word) (h l : Byte := 0) (operands : List Byte := []) : State :=
  { State.reset with pc := pc, h := h, l := l, mem := Memory.writeBytes [] (pc.toNat + 1) operands }

/-- A running core: at tick 4, the boundary pending, having run one instruction. -/
def running : State := { State.reset with pc := 0x0101, seeded := true, tickCount := 4, queue := [(4, .effect .fde)] }

/-- A core in the middle of `NOP`: its increment of `PC` and its boundary pending. -/
def midway : State :=
  { State.reset with
    seeded := true
    tickCount := 1
    queue := [(1, .effect .incPC), (4, .effect .fde)] }

/-- A core with an error latched. -/
def stopped : State := { State.reset with seeded := true, tickCount := 16, fault := some .callStackUnderflow }

/-- EncodeThenDecode. -/
theorem witness_EncodeThenDecode :
    (⟨.call_a16, [0x12, 0xFF]⟩ : Line).wellFormed = true ∧ (⟨.srl_mhl, []⟩ : Line).wellFormed = true := by decide

/-- DecodeThenEncode. -/
theorem witness_DecodeThenEncode :
    decodeLine referenceRom [0xCB, 0x3E, 0x00] = .ok (⟨.srl_mhl, []⟩, [0x00]) ∧
    decodeLine referenceRom [0xCD, 0x12, 0xFF] = .ok (⟨.call_a16, [0x12, 0xFF]⟩, []) := by decide +kernel

/-- FetchDecodeExecute: both clauses, at the last address of memory. -/
theorem witness_FetchDecodeExecute :
    (wit 0xFFFF).pc.toNat < Params.reference.memSize ∧
    (wit 0xFFFF).queue.Pairwise (fun x y => x.1 ≤ y.1) ∧
    Params.reference.rom (wit 0xFFFF).ext ((wit 0xFFFF).byteAt 0) = some .nop ∧
    Params.reference.rom false ((wit 0x00FF 0 0 [0x76]).mem.read 0x0100) = none := by decide +kernel

/-- MemoryAccess: each clause at the boundary of its range. -/
theorem witness_MemoryAccess :
    ((-1 : Int) < 0) ∧ ((Params.reference.memSize : Int) ≤ 0x10000) ∧ ((0xFFFF : Int) < Params.reference.memSize) ∧
    ((0x7FFF : Int) < Params.reference.progEnd) ∧ ((Params.reference.progEnd : Int) ≤ 0x8000) := by decide

/-- FlagsLowBits: a write of `AF` that is done, and an effect. -/
theorem witness_FlagsLowBits :
    (∃ t, writeReg16 Params.reference .af 0x12FF State.reset = .done t) ∧
    (∃ t, runEffect Params.reference (.alu .add .b) State.reset = .done t) := ⟨⟨_, rfl⟩, ⟨_, rfl⟩⟩

/-- ProgramCounterEffects: each clause at the top of memory. -/
theorem witness_ProgramCounterEffects :
    Params.reference.memSize ≤ 0x10000 ∧ (wit 0xFFFE).pc.toNat + 1 < Params.reference.memSize ∧
    (wit 0xFFFF).pc.toNat + 1 = Params.reference.memSize ∧
    (0 : Int) ≤ (wit 0xFFFE).pc.toNat + (1 : Byte).toInt ∧
    (wit 0xFFFE).pc.toNat + (1 : Byte).toInt < Params.reference.memSize ∧
    ¬((wit 0xFFFE).pc.toNat + (2 : Byte).toInt < Params.reference.memSize) := by decide

/-- CallStackEffects: an empty stack, a stack at capacity and one below it. -/
theorem witness_CallStackEffects :
    (List.replicate 16 (0x0103 : Word)).length = Params.reference.callStackCapacity ∧
    ([] : List Word).length < Params.reference.callStackCapacity ∧
    List.replicate 16 (0x0103 : Word) = List.replicate 15 0x0103 ++ [0x0103] ∧
    (0xFFFF : Word).toNat < Params.reference.memSize ∧
    ({ Params.reference with memSize := 0x8000 } : Params).memSize ≤ (0x8000 : Word).toNat := by decide

/-- CallStackIsLifo: as many addresses as the capacity. -/
theorem witness_CallStackIsLifo :
    (∀ a ∈ [(0x0103 : Word), 0xFFFF], a.toNat < Params.reference.memSize) ∧
    State.reset.callStack.length + (List.replicate 16 (0x0103 : Word)).length ≤ Params.reference.callStackCapacity := by
  simp [Params.reference, State.reset, State.powerOn]

/-- ScheduleAndDrain: a queue in tick order with two operations at one tick. -/
theorem witness_ScheduleAndDrain :
    ([(1, .effect .incPC), (4, .effect .clearFB), (4, .effect .fde)] : Queue).Pairwise (fun x y => x.1 ≤ y.1) := by
  decide

/-- HandlerPlans: a descriptor with no branch condition, and a condition that holds and one that does not. -/
theorem witness_HandlerPlans :
    (∀ cc, Descriptor.nop ≠ .jrCC cc) ∧ CcRule .z 0x80 ∧ ¬CcRule .z 0x00 :=
  ⟨fun _ h => Descriptor.noConfusion h, by unfold CcRule; decide, by unfold CcRule; decide⟩

/-- TakingAnError: `RET` with an empty call stack at its pop, the next boundary still pending; and a failed fetch. -/
theorem witness_TakingAnError :
    ∃ s s₁ s₂ : State, s.fault = none ∧ s.seeded = true ∧
      dueAt s.tickCount s.queue = [] ++ .effect .popPC :: [] ∧
      runOps Params.reference [] { s with queue := notDueAt s.tickCount s.queue } = .done s₁ ∧
      runOp Params.reference (.effect .popPC) s₁ = .raised .callStackUnderflow s₂ :=
  ⟨{ running with queue := [(4, .effect .popPC), (5, .effect .fde)] }, _, _, rfl, rfl, rfl, rfl, rfl⟩

/-- FaultedCore, and the clauses on what the host does to it. -/
theorem witness_FaultedCore :
    stopped.fault = some .callStackUnderflow ∧
    (∃ r, hostStep Params.reference .timerTick stopped = .next r) ∧
    (∃ r, hostStep Params.reference .resume stopped = .next r) := ⟨rfl, ⟨_, rfl⟩, ⟨_, rfl⟩⟩

/-- Resume: both clauses. -/
theorem witness_Resume : State.reset.fault = none ∧ stopped.fault ≠ none ∧ stopped.queue = [] := by decide

/-- LoadRom: the three clauses, the sequence ending at the end of the program region and one byte beyond it. -/
theorem witness_LoadRom :
    (running.tickCount ≠ 0 ∨ running.seeded = true) ∧ State.reset.tickCount = 0 ∧ State.reset.seeded = false ∧
    (Params.reference.progEnd : Int) < 0x7FFF + ([0, 0] : List Byte).length ∧
    0x7FFE + (([0, 0] : List Byte).length : Int) ≤ Params.reference.progEnd := by decide

/-- TimersAreIndependent: a tick that answers. -/
theorem witness_TimersAreIndependent : ∃ t, tick Params.reference midway = .next t := ⟨_, rfl⟩

/-- HostOperationsFrame: an operation that answers. -/
theorem witness_HostOperationsFrame :
    ∃ r, hostStep Params.reference (.write 0x8000 0x01) State.reset = .next r := ⟨_, rfl⟩

/-- HostAccessors: the range clauses, `PC` at the end of a memory of 0x100 bytes and just inside it; the first and last
address of memory and the addresses beyond it; the last byte of the program region and the first of the working region. -/
theorem witness_HostAccessors :
    ((.pc : Reg16) = .pc ∨ (.pc : Reg16) = .sp) ∧
    ({ Params.reference with memSize := 0x100 } : Params).memSize ≤ (0x0100 : Word).toNat ∧
    (0x00FF : Word).toNat < ({ Params.reference with memSize := 0x100 } : Params).memSize ∧
    (0xFFFF : Int) < Params.reference.memSize ∧ (Params.reference.memSize : Int) ≤ 0x10000 ∧ (-1 : Int) < 0 ∧
    (0x7FFF : Int) < Params.reference.progEnd ∧ (Params.reference.progEnd : Int) ≤ 0x8000 := by decide

/-- TickCounter: a tick of a running core and of a core with an error latched. -/
theorem witness_TickCounter :
    (∃ t, tick Params.reference midway = .next t) ∧ midway.fault = none ∧
    (∃ t, tick Params.reference stopped = .next t) ∧ stopped.fault ≠ none :=
  ⟨⟨_, rfl⟩, rfl, ⟨_, rfl⟩, by decide⟩

/-- ProgramRegionIsReadOnly: a tick, a step and an instruction that answer, and the last address of the region. -/
theorem witness_ProgramRegionIsReadOnly :
    (∃ t, tick Params.reference midway = .next t) ∧ (∃ t, step stopped = .next t) ∧
    (∃ t, exec .ld_mhl_a stopped = .next t) ∧ 0x7FFF < Params.reference.progEnd := ⟨⟨_, rfl⟩, ⟨_, rfl⟩, ⟨_, rfl⟩, by decide⟩

/-- The queue of a core in the middle of `NOP` is a running queue. -/
theorem witness_RunningQueue : RunningQueue midway.tickCount midway.queue where
  shape := ⟨[(1, .effect .incPC)], 4, rfl, by decide, by decide, by decide, by simp⟩

/-- TickKeepsInv, StepKeepsInv, HostOperationsKeepInv, NothingIsStuck, StepIsTicks: a running core in the invariant, that
answers. -/
theorem witness_Inv :
    Params.reference.inRange = true ∧ Inv Params.reference midway ∧ (∃ t, tick Params.reference midway = .next t) ∧
    (∃ t, step midway = .next t) ∧ (∃ r, hostStep Params.reference .tick midway = .next r) :=
  ⟨by decide,
    { memCanonical := rfl, memInRange := by decide, flagsLow := by decide
      pcInRange := by simp [midway, State.reset, State.powerOn, Params.reference]
      spInRange := by simp [midway, State.reset, State.powerOn, Params.reference]
      stackBound := by simp [midway, State.reset, State.powerOn]
      stackAddresses := by simp [midway, State.reset, State.powerOn]
      faultedIdle := fun h => absurd rfl h, unseededIdle := fun h => absurd h (by decide)
      running := fun _ _ => witness_RunningQueue },
    ⟨_, rfl⟩, ⟨_, rfl⟩, ⟨_, rfl⟩⟩

/-- StepRunsDecoded, BoundaryTicksAreExec: a boundary from the queue, the seeding boundary, and between boundaries. -/
theorem witness_StepRunsDecoded :
    running.fault = none ∧ running.atBoundary = true ∧ referenceRom running.ext (running.byteAt 0) = some .nop ∧
    State.reset.atBoundary = true ∧ midway.fault = none ∧ midway.atBoundary = false := by decide +kernel

/-- StepOnUnknownOpcode: in the primary and in the extended table. -/
theorem witness_StepOnUnknownOpcode :
    (boot [0x76]).fault = none ∧ (boot [0x76]).atBoundary = true ∧ referenceRom false ((boot [0x76]).byteAt 0) = none ∧
    referenceRom true ((boot [0x40]).byteAt 0) = none := by decide +kernel

/-- PrefixThenExtended: the last address with a byte behind it, and both kinds of second byte. -/
theorem witness_PrefixThenExtended :
    (boot [0xCB, 0x3F]).fault = none ∧ (boot [0xCB, 0x3F]).atBoundary = true ∧ (boot [0xCB, 0x3F]).ext = false ∧
    (boot [0xCB, 0x3F]).byteAt 0 = 0xCB ∧ (boot [0xCB, 0x3F]).pc.toNat + 1 < 0x10000 ∧
    referenceRom true ((boot [0xCB, 0x3F]).byteAt 1) = some .srl_a ∧ 0x40 ≤ ((boot [0xCB, 0x40]).byteAt 1).toNat := by
  decide +kernel

/-- InstructionFrame: an instruction that answers, outside every list. -/
theorem witness_InstructionFrame : ∃ t, exec .ld_b_c (wit 0xFFFE) = .next t := ⟨_, rfl⟩

/-- The instructions of one byte: LoadRegisterRegister, IncrementDecrementRegister, IncrementDecrementPair, AluRegister,
AluMemory, LoadRegisterMemory, RotateAccumulator, ExtendedRegister, SystemInstructions. -/
theorem witness_OneByteInstructions : (wit 0xFFFE).fault = none ∧ (wit 0xFFFE).pc.toNat + 1 < 0x10000 := by decide

/-- The instructions of two bytes: LoadRegisterImmediate, AluImmediate. -/
theorem witness_TwoByteInstructions : (wit 0xFFFD).fault = none ∧ (wit 0xFFFD).pc.toNat + 2 < 0x10000 := by decide

/-- The instructions of three bytes: LoadPairImmediate, LoadStackPointer, JumpAbsolute. -/
theorem witness_ThreeByteInstructions : (wit 0xFFFC).fault = none ∧ (wit 0xFFFC).pc.toNat + 3 < 0x10000 := by decide

/-- StoreRegisterMemory, ExtendedMemory: the first address of the working region and the last of the program region. -/
theorem witness_StoreRegions :
    (wit 0xFFFE 0x80 0x00).fault = none ∧ (wit 0xFFFE 0x80 0x00).pc.toNat + 1 < 0x10000 ∧
    0x8000 ≤ (wit 0xFFFE 0x80 0x00).hlAddress ∧ (wit 0xFFFE 0x7F 0xFF).hlAddress < 0x8000 := by decide

/-- JumpRelative: a target at each end of memory, and one beyond each end. -/
theorem witness_JumpRelative :
    (wit 0x0000 0 0 [0xFE]).fault = none ∧ (wit 0x0000 0 0 [0xFE]).pc.toNat + 2 < 0x10000 ∧
    (((0 : Word).toNat : Int) = (wit 0x0000 0 0 [0xFE]).jumpTarget) ∧
    (((0xFFFF : Word).toNat : Int) = (wit 0xFFFC 0 0 [0x01]).jumpTarget) ∧
    (wit 0x0000 0 0 [0xFD]).jumpTarget < 0 ∧ 0x10000 ≤ (wit 0xFFFC 0 0 [0x02]).jumpTarget := by decide

/-- JumpConditional: each condition holding and not holding, with a target in memory and beyond it. -/
theorem witness_JumpConditional :
    CcRule .nz 0x00 ∧ CcRule .z 0x80 ∧ CcRule .nc 0x00 ∧ CcRule .c 0x10 ∧ ¬CcRule .nz 0x80 ∧ ¬CcRule .z 0x00 ∧
    ¬CcRule .nc 0x10 ∧ ¬CcRule .c 0x00 ∧ CcRule .nz (wit 0x0000 0 0 [0xFE]).f ∧
    (((0 : Word).toNat : Int) = (wit 0x0000 0 0 [0xFE]).jumpTarget) ∧ (wit 0x0000 0 0 [0xFD]).jumpTarget < 0 := by
  unfold CcRule; decide

/-- CallSubroutine, CallThenReturn: a call stack with one free entry, and one at capacity. -/
theorem witness_CallSubroutine :
    { wit 0xFFFC with callStack := List.replicate 15 0x0103 }.fault = none ∧
    { wit 0xFFFC with callStack := List.replicate 15 0x0103 }.pc.toNat + 3 < 0x10000 ∧
    { wit 0xFFFC with callStack := List.replicate 15 0x0103 }.callStack.length < 16 ∧
    { wit 0xFFFC with callStack := List.replicate 15 0x0103 }.immediate ≠ 0xFFFF ∧
    { wit 0xFFFC with callStack := List.replicate 16 0x0103 }.callStack.length = 16 := by decide

/-- ReturnFromSubroutine: one entry, and none. -/
theorem witness_ReturnFromSubroutine :
    { wit 0xFFFE with callStack := [0x0103] }.fault = none ∧
    { wit 0xFFFE with callStack := [0x0103] }.pc.toNat + 1 < 0x10000 ∧
    { wit 0xFFFE with callStack := [0x0103] }.callStack = [] ++ [0x0103] ∧ (wit 0xFFFE).callStack = [] := by decide

/-- TopOfMemory: the three addresses, with an instruction of each length. -/
theorem witness_TopOfMemory :
    (wit 0xFFFF).fault = none ∧ (wit 0xFFFF).pc = 0xFFFF ∧ (wit 0xFFFE).pc = 0xFFFE ∧
    1 ≤ Instr.jr_e8.descriptor.operandBytes ∧ (wit 0xFFFD).pc = 0xFFFD ∧ Instr.ld_bc_d16 = Forms.ld16 .bc := by decide

end Sys2Proof.Tests
end

/-! ## What every ending of an operation satisfies -/

namespace Sys2Proof.Machine

/-- The state an operation hands on, whether it completes or raises, satisfies `P`; a refusal hands on none. -/
def OpResult.Holds (P : State → Prop) : OpResult → Prop
  | .done s => P s
  | .raised _ s => P s
  | .refused _ => True

@[simp] theorem OpResult.holds_done (P : State → Prop) (s : State) : (OpResult.done s).Holds P ↔ P s := Iff.rfl
@[simp] theorem OpResult.holds_raised (P : State → Prop) (e : CoreError) (s : State) :
    (OpResult.raised e s).Holds P ↔ P s := Iff.rfl
@[simp] theorem OpResult.holds_refused (P : State → Prop) (r : Refusal) : (OpResult.refused r).Holds P := trivial

section HoldsRules

variable {P : State → Prop} {p : Params} {s : State}

/-! Each range-checked operation hands on the state it was given, or that state with its one write. -/

theorem setPC_holds {v : Int} (hs : P s)
    (hw : 0 ≤ v → v < p.memSize → P { s with pc := BitVec.ofInt 16 v }) : (setPC p v s).Holds P := by
  rcases setPC_cases p v s with ⟨h0, h1, e⟩ | ⟨-, e⟩ <;> rw [e]
  · exact hw h0 h1
  · exact hs

theorem setSP_holds {v : Int} (hs : P s)
    (hw : 0 ≤ v → v < p.memSize → P { s with sp := BitVec.ofInt 16 v }) : (setSP p v s).Holds P := by
  rcases setSP_cases p v s with ⟨h0, h1, e⟩ | ⟨-, e⟩ <;> rw [e]
  · exact hw h0 h1
  · exact hs

theorem memWrite_holds {a : Int} {v : Byte} (hs : P s)
    (hw : 0 ≤ a → a < p.memSize → P { s with mem := s.mem.write a.toNat v }) : (memWrite p a v s).Holds P := by
  rcases memWrite_cases p a v s with ⟨h0, h1, -, e⟩ | ⟨-, e⟩ <;> rw [e]
  · exact hw h0 h1
  · exact hs

theorem pushPC_holds (hs : P s)
    (hw : s.callStack.length < p.callStackCapacity → P { s with callStack := s.callStack ++ [s.pc] }) :
    (pushPC p s).Holds P := by
  rcases push_cases p s.pc s with ⟨h, e⟩ | ⟨-, e⟩ <;> rw [pushPC, e]
  · exact hw h
  · exact hs

theorem popPC_holds (hs : P s)
    (hw : ∀ rest t, s.callStack = rest ++ [t] → t.toNat < p.memSize → P { s with pc := t, callStack := rest }) :
    (popPC p s).Holds P := by
  rcases popPC_cases p s with ⟨-, e⟩ | ⟨rest, t, h, ht, e⟩ | ⟨_, _, _, _, e⟩ <;> rw [e]
  · exact hs
  · exact hw rest t h ht
  · exact hs

/-- Reading a memory byte into a cell writes that cell or nothing. -/
theorem transfer_load_holds {q : Reg16} {n : Reg8} (hs : P s) (hw : ∀ v, P (writeReg8 n v s)) :
    (transfer p (.mem q) (.reg8 n) s).Holds P := by
  rcases memRead_cases p (readReg16 q s).toNat s with ⟨-, -, e⟩ | ⟨-, e⟩ <;> simp only [transfer, e]
  · exact hw _
  · exact hs

/-- A boundary issues the decoded instruction, or raises with at most `EXT` cleared (spec/40_pipeline.md R167, R168). -/
theorem fetchDecodeExecute_holds (hs : P s) (hext : P { s with ext := false })
    (hw : ∀ i : Instr, P (issue i.descriptor s)) : (fetchDecodeExecute p s).Holds P := by
  rcases memRead_cases p s.pc.toNat s with ⟨-, -, e⟩ | ⟨-, e⟩ <;> simp only [fetchDecodeExecute, fetchDecode, e]
  · cases p.rom s.ext (s.mem.read (s.pc.toNat : Int).toNat) with
    | none => exact hext
    | some i => exact hw i
  · exact hs

end HoldsRules

/-- A property that every micro-operation hands on is handed on by a list of them. -/
theorem runOps_holds {P : State → Prop} {p : Params} (hop : ∀ op s, P s → (runOp p op s).Holds P)
    (ops : List MicroOp) {s : State} (hs : P s) : (runOps p ops s).Holds P := by
  induction ops generalizing s with
  | nil => exact hs
  | cons op ops ih =>
    have h := hop op s hs
    rw [runOps]
    cases hr : runOp p op s with
    | done u => rw [hr] at h; exact ih h
    | raised e u => rw [hr] at h; exact h
    | refused r => trivial

/-! ## The invariant's part on data: everything but the queue -/

/-- The part of the invariant that does not speak of the queue, the latched error and the tick loop. -/
structure DataInv (p : Params) (s : State) : Prop where
  memCanonical : s.mem.wf = true
  memInRange : ∀ x ∈ s.mem, x.1 < p.memSize
  flagsLow : s.f &&& 0x0F = 0
  pcInRange : s.pc.toNat < p.memSize
  spInRange : s.sp.toNat < p.memSize
  stackBound : s.callStack.length ≤ p.callStackCapacity
  stackAddresses : ∀ a ∈ s.callStack, a.toNat < p.memSize

/-- The part of the invariant on the queue (spec/40_pipeline.md R177, spec/60_exceptions.md R326). -/
structure ScheduleInv (s : State) : Prop where
  faultedIdle : s.fault ≠ none → s.queue = []
  unseededIdle : s.seeded = false → s.queue = []
  running : s.fault = none → s.seeded = true → RunningQueue s.tickCount s.queue

theorem inv_iff (p : Params) (s : State) : Inv p s ↔ DataInv p s ∧ ScheduleInv s := by
  constructor
  · rintro ⟨hwf, hmem, hf, hpc, hsp, hlen, hcs, hfault, hunseeded, hrun⟩
    exact ⟨⟨hwf, hmem, hf, hpc, hsp, hlen, hcs⟩, ⟨hfault, hunseeded, hrun⟩⟩
  · rintro ⟨⟨hwf, hmem, hf, hpc, hsp, hlen, hcs⟩, ⟨hfault, hunseeded, hrun⟩⟩
    exact ⟨hwf, hmem, hf, hpc, hsp, hlen, hcs, hfault, hunseeded, hrun⟩

theorem maskF_low (v : Byte) : maskF v &&& 0x0F = 0 := by
  rw [maskF, BitVec.and_assoc]; exact BitVec.and_zero

/-- An integer in a range of naturals keeps its bound as a word. -/
theorem toNat_ofInt_lt {v : Int} {n : Nat} (h0 : 0 ≤ v) (hn : v < n) : (BitVec.ofInt 16 v).toNat < n := by
  lift v to Nat using h0
  rw [BitVec.ofInt_natCast, BitVec.toNat_ofNat]
  exact Nat.lt_of_le_of_lt (Nat.mod_le _ _) (by exact_mod_cast hn)

section DataInvRules

variable {p : Params} {s t : State}

/-- The data invariant reads the memory, `F`, `PC`, `SP` and the call stack alone. -/
theorem DataInv.congr (h : DataInv p s) (hmem : t.mem = s.mem := by rfl) (hf : t.f = s.f := by rfl)
    (hpc : t.pc = s.pc := by rfl) (hsp : t.sp = s.sp := by rfl) (hcs : t.callStack = s.callStack := by rfl) :
    DataInv p t := by
  obtain ⟨h1, h2, h3, h4, h5, h6, h7⟩ := h
  constructor <;> simpa only [hmem, hf, hpc, hsp, hcs]

theorem DataInv.writePC {w : Word} (h : DataInv p s) (hw : w.toNat < p.memSize) : DataInv p { s with pc := w } :=
  { h with pcInRange := hw }

theorem DataInv.writeSP {w : Word} (h : DataInv p s) (hw : w.toNat < p.memSize) : DataInv p { s with sp := w } :=
  { h with spInRange := hw }

theorem DataInv.writeReg8 (h : DataInv p s) (n : Reg8) (v : Byte) : DataInv p (writeReg8 n v s) := by
  cases n
  case f => exact { h with flagsLow := maskF_low v }
  all_goals exact h.congr

theorem DataInv.writeResult (h : DataInv p s) (n : Reg8) (r : ByteResult) : DataInv p (writeResult n r s) :=
  (h.writeReg8 n r.val).writeReg8 .f r.flags

theorem DataInv.writeMem {a : Nat} (h : DataInv p s) (ha : a < p.memSize) (v : Byte) :
    DataInv p { s with mem := s.mem.write a v } :=
  { h with
    memCanonical := Memory.wf_write a v h.memCanonical
    memInRange := fun x hx => by
      rcases Memory.mem_write hx with rfl | hx
      · exact ha
      · exact h.memInRange x hx }

theorem DataInv.setPC (h : DataInv p s) (v : Int) : (setPC p v s).Holds (DataInv p) :=
  setPC_holds h fun h0 h1 => h.writePC (toNat_ofInt_lt h0 h1)

theorem DataInv.setSP (h : DataInv p s) (v : Int) : (setSP p v s).Holds (DataInv p) :=
  setSP_holds h fun h0 h1 => h.writeSP (toNat_ofInt_lt h0 h1)

theorem DataInv.writeReg16 (h : DataInv p s) (n : Reg16) (v : Word) : (writeReg16 p n v s).Holds (DataInv p) := by
  cases n with
  | pc => exact h.setPC _
  | sp => exact h.setSP _
  | bus => exact h.congr
  | af | bc | de | hl | tmp => exact (h.writeReg8 _ _).writeReg8 _ _

theorem DataInv.memWrite (h : DataInv p s) (a : Int) (v : Byte) : (memWrite p a v s).Holds (DataInv p) :=
  memWrite_holds h fun h0 h1 => h.writeMem (by omega) v

theorem DataInv.pushPC (h : DataInv p s) : (pushPC p s).Holds (DataInv p) :=
  pushPC_holds h fun hlt =>
    { h with
      stackBound := by simpa using hlt
      stackAddresses := fun a ha => by
        rcases List.mem_append.1 ha with ha | ha
        · exact h.stackAddresses a ha
        · rw [List.mem_singleton.1 ha]; exact h.pcInRange }

theorem DataInv.popPC (h : DataInv p s) : (popPC p s).Holds (DataInv p) :=
  popPC_holds h fun rest t hcs ht =>
    { h with
      pcInRange := ht
      stackBound := by
        have hlen : (rest ++ [t]).length ≤ p.callStackCapacity := hcs ▸ h.stackBound
        exact Nat.le_trans (by simp) hlen
      stackAddresses := fun a ha => h.stackAddresses a (by simp [hcs, ha]) }

theorem DataInv.transfer (h : DataInv p s) (src dst : Endpoint) : (transfer p src dst s).Holds (DataInv p) := by
  cases src <;> cases dst
  case reg8.reg8 m n => exact h.writeReg8 n _
  case reg8.mem m q => exact h.memWrite _ _
  case mem.reg8 q n => exact transfer_load_holds h fun v => h.writeReg8 n v
  case reg16.reg16 m n => exact h.writeReg16 n _
  all_goals trivial

theorem DataInv.runEffect (h : DataInv p s) (e : Effect) : (runEffect p e s).Holds (DataInv p) := by
  cases e with
  | incPC | jumpRel => exact h.setPC _
  | fde => exact fetchDecodeExecute_holds h h.congr fun _ => h.congr
  | inc8 | dec8 | alu | rotA | cb => exact h.writeResult _ _
  | inc16 | dec16 => exact h.writeReg16 _ _
  | pushPC => exact h.pushPC
  | popPC => exact h.popPC
  | clearFB => exact h.congr

/-- Every micro-operation keeps the data invariant, an error on the way included. -/
theorem DataInv.runOp (h : DataInv p s) (op : MicroOp) : (runOp p op s).Holds (DataInv p) := by
  cases op with
  | transfer src dst => exact h.transfer src dst
  | effect e => exact h.runEffect e

theorem DataInv.runOps (h : DataInv p s) (ops : List MicroOp) : (runOps p ops s).Holds (DataInv p) :=
  runOps_holds (fun op _ hs => hs.runOp op) ops h

end DataInvRules

end Sys2Proof.Machine

/-! ## The plans meet the handler contract -/

namespace Sys2Proof.Machine

/-- Every handler plan, the branch taken or not, meets the contract of spec/40_pipeline.md R169. -/
theorem planFor_wellFormed (d : Descriptor) (taken : Bool) : (planFor d taken).wellFormed = true := by
  have hdur := planFor_dur_pos d taken
  have hshape := (planFor_shape d taken).2
  have hwidth : ∀ x ∈ (planFor d taken).ops, x.2.wellFormed = true := by
    cases d <;> cases taken <;> simp [planFor, planNop, planLd16, planLdSP16, planLd8I, planLdRR, planLdHL, planStHL,
      planInc8, planDec8, planInc16, planDec16, planAluR, planAluHL, planAluI, planRotA, planCbR, planCbHL,
      planJumpRel, planNoJump, planJp, planCall, planRet, planPrefix, planCls, immRead, memRd, memWr, internal, move16,
      MicroOp.wellFormed]
  simp only [Plan.wellFormed, Bool.and_eq_true, decide_eq_true_eq, List.all_eq_true]
  refine ⟨by omega, fun x hx => ⟨⟨?_, (hshape x hx).2.1⟩, hwidth x hx⟩⟩
  have := (hshape x hx).1
  omega

/-- No plan lasts longer than a `CALL` (spec/40_pipeline.md R173). -/
theorem planFor_dur_le (d : Descriptor) (taken : Bool) : (planFor d taken).dur ≤ 24 := by
  cases d <;> cases taken <;> simp [planFor, planNop, planLd16, planLdSP16, planLd8I, planLdRR, planLdHL, planStHL,
    planInc8, planDec8, planInc16, planDec16, planAluR, planAluHL, planAluI, planRotA, planCbR, planCbHL,
    planJumpRel, planNoJump, planJp, planCall, planRet, planPrefix, planCls]

/-- What the contract says of one pair of a plan. -/
theorem planFor_mem {d : Descriptor} {taken : Bool} {x : Nat × MicroOp} (hx : x ∈ (planFor d taken).ops) :
    3 ≤ x.1 ∧ x.1 < (planFor d taken).dur ∧ x.2 ≠ .effect .fde ∧ x.2.wellFormed = true := by
  obtain ⟨hlow, hhigh, hfde⟩ := (planFor_shape d taken).2 x hx
  have hwf := planFor_wellFormed d taken
  simp only [Plan.wellFormed, Bool.and_eq_true, List.all_eq_true] at hwf
  exact ⟨hlow, hhigh, hfde, (hwf.2 x hx).2⟩

/-! ## The running queue -/

/-- Just after its boundary at `s.tickCount` an instruction's queue is a running one for the next tick. -/
theorem runningQueue_issue (d : Descriptor) {s : State} (hq : s.queue = []) :
    RunningQueue (s.tickCount + 1) (issue d s).queue := by
  have hpos : 4 ≤ (plan d s).dur := planFor_dur_pos d _
  have hle : (plan d s).dur ≤ 24 := planFor_dur_le d _
  have hmem : ∀ x ∈ (plan d s).ops, 3 ≤ x.1 ∧ x.1 < (plan d s).dur ∧ x.2 ≠ .effect .fde ∧ x.2.wellFormed = true :=
    fun x hx => planFor_mem hx
  have hsorted : (plan d s).ops.Pairwise (fun x y => x.1 ≤ y.1) := (planFor_shape d _).1
  refine ⟨_, _, issue_queue_of_empty d s hq, by omega, by omega, fun x hx => ?_, ?_⟩
  · obtain ⟨y, hy, rfl⟩ := List.mem_map.1 hx
    rcases List.mem_cons.1 hy with rfl | hy
    · exact ⟨Nat.le_refl _, by simp only; omega, by simp, rfl⟩
    · obtain ⟨hlow, hhigh, hfde, hwf⟩ := hmem y hy
      exact ⟨by simp only; omega, by simp only; omega, hfde, hwf⟩
  · refine List.pairwise_map.2 (List.pairwise_cons.2 ⟨fun y hy => ?_, ?_⟩)
    · have := (hmem y hy).1
      simp only
      omega
    · exact hsorted.imp fun h => Nat.add_le_add_left h _

/-- A running queue holds the boundary alone, due now, or its due operations are no boundary and without them it is
still a running queue at the next tick. -/
theorem RunningQueue.cases {now : Nat} {q : Queue} (h : RunningQueue now q) :
    q = [(now, .effect .fde)] ∨
      ((∀ op ∈ dueAt now q, op ≠ .effect .fde ∧ op.wellFormed = true) ∧
        RunningQueue (now + 1) (notDueAt now q)) := by
  obtain ⟨pending, t, rfl, hnow, hle, hpend, hsorted⟩ := h
  rcases Nat.eq_or_lt_of_le hnow with rfl | hlt
  · left
    have hnil : pending = [] := List.eq_nil_iff_forall_not_mem.2 fun x hx => by
      obtain ⟨h1, h2, -⟩ := hpend x hx
      omega
    rw [hnil]; rfl
  · right
    have hne : t ≠ now := Nat.ne_of_gt hlt
    refine ⟨fun op hop => ?_, pending.filter fun x => x.1 != now, t, ?_, hlt, by omega, fun x hx => ?_,
      hsorted.filter _⟩
    · obtain ⟨x, hx, rfl⟩ := List.mem_map.1 hop
      obtain ⟨hx, hdue⟩ := List.mem_filter.1 hx
      rcases List.mem_append.1 hx with hx | hx
      · exact (hpend x hx).2.2
      · rw [List.mem_singleton.1 hx] at hdue
        exact absurd (by simpa using hdue) hne
    · simp [notDueAt, hne]
    · obtain ⟨hx, hnd⟩ := List.mem_filter.1 hx
      obtain ⟨h1, h2, hop⟩ := hpend x hx
      have hnd : x.1 ≠ now := by simpa using hnd
      exact ⟨by omega, h2, hop⟩

/-! ## The tick, at a boundary and between boundaries -/

theorem faulted_eq_false {s : State} : s.faulted = false ↔ s.fault = none := by simp [State.faulted]

theorem faulted_eq_true {s : State} : s.faulted = true ↔ s.fault ≠ none := by
  simp [State.faulted, Option.isSome_iff_ne_none]

/-- A faulted core stays as it is (spec/60_exceptions.md R327). -/
theorem tick_of_faulted {p : Params} {s : State} (h : s.fault ≠ none) : tick p s = .next s := by
  simp only [tick, faulted_eq_true.2 h, if_true]

/-- Nothing a boundary issues from an empty queue is due at that boundary's own tick. -/
theorem runDue_issue (p : Params) (d : Descriptor) {s : State} (hq : s.queue = []) :
    runDue p (issue d s) = .done (issue d s) := by
  obtain ⟨pending, t, hshape, hlt, -, hpend, -⟩ := runningQueue_issue d hq
  have hlate : ∀ x ∈ (issue d s).queue, x.1 ≠ s.tickCount := fun x hx => by
    rw [hshape] at hx
    rcases List.mem_append.1 hx with hx | hx
    · have := (hpend x hx).1
      omega
    · rw [List.mem_singleton.1 hx]
      exact Nat.ne_of_gt hlt
  have hdue : dueAt (issue d s).tickCount (issue d s).queue = [] := by
    rw [dueAt, List.filter_eq_nil_iff.2 fun x hx => by simpa using hlate x hx]; rfl
  have hrest : notDueAt (issue d s).tickCount (issue d s).queue = (issue d s).queue :=
    List.filter_eq_self.2 fun x hx => by simpa using hlate x hx
  rw [runDue, hdue, hrest]; rfl

/-- A boundary's own step, whatever brought it about: the first tick of a core or the boundary pending in its queue. -/
theorem tick_of_atBoundary (p : Params) {s : State} (hf : s.fault = none) (hb : s.atBoundary = true) :
    tick p s = endTick (fetchDecodeExecute p { s with seeded := true, queue := [] }) := by
  have hfd := faulted_eq_false.2 hf
  cases hs : s.seeded with
  | true =>
    have hq : s.queue = [(s.tickCount, .effect .fde)] := by simpa [State.atBoundary, hs] using hb
    have hdue : dueAt s.tickCount s.queue = [.effect .fde] := by simp [hq, dueAt]
    have hrest : notDueAt s.tickCount s.queue = [] := by simp [hq, notDueAt]
    simp only [tick, hfd, seed, hs, runDue, hdue, hrest, runOps, runOp, runEffect, Bool.false_eq_true, if_false, if_true]
    cases fetchDecodeExecute p { s with seeded := true, queue := [] } <;> rfl
  | false =>
    have hq : s.queue = [] := by simpa [State.atBoundary, hs] using hb
    have hstate : ({ s with seeded := true } : State) = { s with seeded := true, queue := [] } := by rw [← hq]
    simp only [tick, hfd, seed, hs, hstate, Bool.false_eq_true, if_false]
    rw [fetchDecodeExecute]
    cases fetchDecode p { s with seeded := true, queue := [] } with
    | error x => rfl
    | ok i => simp only [runDue_issue p i.descriptor (s := { s with seeded := true, queue := [] }) rfl]

/-- Between boundaries a tick runs what is due, none of it a boundary, on the queue without it. -/
theorem tick_between (p : Params) {s : State} (hf : s.fault = none) (hs : s.seeded = true)
    (hdue : ∀ op ∈ dueAt s.tickCount s.queue, op ≠ .effect .fde) :
    tick p s = endTick ((runOps p (dueAt s.tickCount s.queue) s).map
      (State.withSchedule s.tickCount (notDueAt s.tickCount s.queue))) := by
  have hfd := faulted_eq_false.2 hf
  have hseed : seed p s = .done s := by simp [seed, hs]
  simp only [tick, hfd, hseed, Bool.false_eq_true, if_false]
  exact congrArg endTick (runOps_withSchedule p s.tickCount (notDueAt s.tickCount s.queue) _ s hdue)

/-! ## The invariant through a tick -/

/-- A taken error leaves the invariant, whatever the queue held (spec/60_exceptions.md R326). -/
theorem inv_takeError {p : Params} {s : State} (e : CoreError) (h : DataInv p s) : Inv p (takeError e s) :=
  (inv_iff p _).2 ⟨h.congr, ⟨fun _ => rfl, fun _ => rfl, fun hf => by simp at hf⟩⟩

/-- A running core's invariant is that of its data and of its queue. -/
theorem inv_of_running {p : Params} {s : State} (hd : DataInv p s) (hf : s.fault = none) (hs : s.seeded = true)
    (hq : RunningQueue s.tickCount s.queue) : Inv p s :=
  (inv_iff p s).2 ⟨hd, ⟨fun h => absurd hf h, fun h => by simp [hs] at h, fun _ _ => hq⟩⟩

/-- The state after a boundary's tick, its instruction issued, satisfies the invariant. -/
theorem inv_issued {p : Params} (d : Descriptor) {s : State} (hd : DataInv p s) (hf : s.fault = none) :
    Inv p { issue d { s with seeded := true, queue := [] } with tickCount := s.tickCount + 1 } :=
  inv_of_running hd.congr hf rfl (runningQueue_issue d (s := { s with seeded := true, queue := [] }) rfl)

/-- What a failing decode hands on satisfies the data invariant (spec/40_pipeline.md R168). -/
theorem fetchDecode_error_dataInv {p : Params} {s u : State} {e : CoreError} (hd : DataInv p s)
    (h : fetchDecode p s = .error (e, u)) : DataInv p u := by
  have hholds := hd.runEffect .fde
  rw [runEffect, fetchDecodeExecute, h] at hholds
  exact hholds

theorem inv_tick_of_atBoundary {p : Params} {s t : State} (hd : DataInv p s) (hf : s.fault = none)
    (hb : s.atBoundary = true) (ht : tick p s = .next t) : Inv p t := by
  rw [tick_of_atBoundary p hf hb, fetchDecodeExecute] at ht
  cases hfd : fetchDecode p { s with seeded := true, queue := [] } with
  | error x =>
    rw [hfd] at ht
    cases ht
    exact inv_takeError _ (fetchDecode_error_dataInv hd.congr hfd)
  | ok i =>
    rw [hfd] at ht
    cases ht
    exact inv_issued i.descriptor hd hf

theorem inv_tick_between {p : Params} {s t : State} (hd : DataInv p s) (hf : s.fault = none) (hs : s.seeded = true)
    (hdue : ∀ op ∈ dueAt s.tickCount s.queue, op ≠ .effect .fde)
    (hq : RunningQueue (s.tickCount + 1) (notDueAt s.tickCount s.queue)) (ht : tick p s = .next t) : Inv p t := by
  have hkeep := hd.runOps (dueAt s.tickCount s.queue)
  rw [tick_between p hf hs hdue] at ht
  cases hr : runOps p (dueAt s.tickCount s.queue) s with
  | done u =>
    rw [hr] at ht hkeep
    obtain ⟨hfault, hseeded⟩ := runOps_keeps hdue hr
    cases ht
    exact inv_of_running hkeep.congr (hfault.trans hf) (hseeded.trans hs) hq
  | raised e u =>
    rw [hr] at ht hkeep
    cases ht
    exact inv_takeError e hkeep.congr
  | refused r => rw [hr] at ht; cases ht

/-- A core without an error is at a boundary, or what is due is none and the queue without it runs on. -/
theorem ScheduleInv.cases {s : State} (h : ScheduleInv s) (hf : s.fault = none) :
    s.atBoundary = true ∨
      (s.seeded = true ∧ (∀ op ∈ dueAt s.tickCount s.queue, op ≠ .effect .fde ∧ op.wellFormed = true) ∧
        RunningQueue (s.tickCount + 1) (notDueAt s.tickCount s.queue)) := by
  cases hs : s.seeded with
  | false => left; simp [State.atBoundary, hs, h.unseededIdle hs]
  | true =>
    rcases (h.running hf hs).cases with hq | ⟨hdue, hq⟩
    · left; simp [State.atBoundary, hs, hq]
    · exact .inr ⟨rfl, hdue, hq⟩

/-- Every tick keeps the invariant. -/
theorem Inv.tick {p : Params} {s t : State} (h : Inv p s) (ht : tick p s = .next t) : Inv p t := by
  obtain ⟨hd, hq⟩ := (inv_iff p s).1 h
  by_cases hf : s.fault = none
  · rcases hq.cases hf with hb | ⟨hs, hdue, hrest⟩
    · exact inv_tick_of_atBoundary hd hf hb ht
    · exact inv_tick_between hd hf hs (fun op hop => (hdue op hop).1) hrest ht
  · rw [tick_of_faulted hf] at ht
    cases ht
    exact h

theorem Inv.ticks {p : Params} {n : Nat} {s t : State} (h : Inv p s) (ht : ticks p n s = .next t) : Inv p t := by
  induction n generalizing s with
  | zero => cases ht; exact h
  | succ n ih =>
    rw [Machine.ticks] at ht
    cases hr : Machine.tick p s with
    | next u => rw [hr] at ht; exact ih (h.tick hr) ht
    | fault r => rw [hr] at ht; cases ht
    | refused r => rw [hr] at ht; cases ht

/-! ## The invariant through an instruction and a step -/

/-- An instruction keeps the invariant: after its boundary's tick its duration is a number of ticks. -/
theorem Inv.exec {i : Instr} {s t : State} (h : Inv Params.reference s) (ht : exec i s = .next t) :
    Inv Params.reference t := by
  rw [exec_eq_runDescriptor] at ht
  by_cases hf : s.fault = none
  · simp only [runDescriptor, faulted_eq_false.2 hf, Bool.false_eq_true, if_false] at ht
    exact (inv_issued i.descriptor ((inv_iff _ s).1 h).1 hf).ticks ht
  · rw [runDescriptor_of_faulted _ hf] at ht
    cases ht
    exact h

/-- Every step keeps the invariant. -/
theorem Inv.step {s t : State} (h : Inv Params.reference s) (ht : step s = .next t) : Inv Params.reference t := by
  by_cases hf : s.fault = none
  · simp only [Machine.step, stepWith, faulted_eq_false.2 hf, Bool.false_eq_true, if_false] at ht
    by_cases hb : s.atBoundary = true
    · simp only [hb, if_true] at ht
      cases hfd : fetchDecode Params.reference s with
      | error x =>
        rw [hfd] at ht
        cases ht
        exact inv_takeError _ (fetchDecode_error_dataInv ((inv_iff _ s).1 h).1 hfd).congr
      | ok i => rw [hfd] at ht; exact h.exec ht
    · simp only [hb, Bool.false_eq_true, if_false] at ht
      exact h.tick ht
  · simp only [Machine.step, stepWith, faulted_eq_true.2 hf, if_true] at ht
    cases ht
    exact h

/-- Settles O29: the data and the queue each keep their part, at a boundary and between boundaries. -/
theorem tickKeepsInv : Obligations.TickKeepsInv := by
  intro p s t _ h ht
  exact h.tick ht

/-- Settles O30: an instruction is the ticks of its duration, and every tick keeps the invariant. -/
theorem stepKeepsInv : Obligations.StepKeepsInv := by
  intro s t h ht
  exact h.step ht

end Sys2Proof.Machine

/-! ## What an instruction may write -/

namespace Sys2Proof.Machine

/-- The parts of the state whose writers spec/10_state.md names (R36, R40, R51, R55 to R58), and memory. -/
inductive Resource where
  | flags | sp | callStack | fb | mem | timersAndKeys

/-- The resource holds the same in both states. -/
def Resource.Same (r : Resource) (s t : State) : Prop :=
  match r with
  | .flags => t.f = s.f
  | .sp => t.sp = s.sp
  | .callStack => t.callStack = s.callStack
  | .fb => t.fb = s.fb
  | .mem => t.mem = s.mem
  | .timersAndKeys => t.dt = s.dt ∧ t.st = s.st ∧ t.timerTicks = s.timerTicks ∧ t.keys = s.keys

end Sys2Proof.Machine

namespace Sys2Proof

/-- The resources a transfer into an endpoint writes. -/
def Endpoint.Writes (dst : Endpoint) (r : Machine.Resource) : Prop :=
  match dst with
  | .reg8 n => n = .f ∧ r = .flags
  | .reg16 n => n = .af ∧ r = .flags ∨ n = .sp ∧ r = .sp
  | .mem _ => r = .mem

/-- The resources an effect writes. -/
def Effect.Writes (e : Effect) (r : Machine.Resource) : Prop :=
  match e with
  | .inc8 _ | .dec8 _ | .alu _ _ | .rotA _ | .cb _ _ => r = .flags
  | .inc16 rr | .dec16 rr => rr = .sp ∧ r = .sp
  | .pushPC | .popPC => r = .callStack
  | .clearFB => r = .fb
  | .incPC | .fde | .jumpRel => False

/-- The resources a micro-operation writes. -/
def MicroOp.Writes (op : MicroOp) (r : Machine.Resource) : Prop :=
  match op with
  | .transfer _ dst => dst.Writes r
  | .effect e => e.Writes r

/-- The resources the plan of a descriptor writes. -/
def Descriptor.Writes (d : Descriptor) (r : Machine.Resource) : Prop :=
  match d with
  | .inc8 _ | .dec8 _ | .aluR _ _ | .aluHL _ | .aluI _ | .rotA _ | .cbR _ _ => r = .flags
  | .cbHL _ => r = .flags ∨ r = .mem
  | .stHL _ => r = .mem
  | .ldSP16 => r = .sp
  | .inc16 rr | .dec16 rr => rr = .sp ∧ r = .sp
  | .call | .ret => r = .callStack
  | .cls => r = .fb
  | .nop | .ld16 _ | .ld8I _ | .ldRR _ _ | .ldHL _ | .jr | .jrCC _ | .jp | .prefixCB => False

end Sys2Proof

namespace Sys2Proof.Machine

/-! ### Each operation writes its resources and no other -/

section Frame

variable {p : Params} {r : Resource} {s : State}

theorem Resource.Same.refl (r : Resource) (s : State) : r.Same s s := by
  cases r
  case timersAndKeys => exact ⟨rfl, rfl, rfl, rfl⟩
  all_goals rfl

theorem Resource.Same.trans {t u : State} (h : r.Same s t) (h' : r.Same t u) : r.Same s u := by
  cases r
  case timersAndKeys =>
    obtain ⟨hdt, hst, htt, hk⟩ := h
    obtain ⟨hdt', hst', htt', hk'⟩ := h'
    exact ⟨hdt'.trans hdt, hst'.trans hst, htt'.trans htt, hk'.trans hk⟩
  all_goals exact Eq.trans h' h

theorem writeReg8_f_of_ne {n : Reg8} (h : n ≠ .f) (v : Byte) (s : State) : (writeReg8 n v s).f = s.f := by
  cases n
  case f => exact absurd rfl h
  all_goals rfl

@[simp] theorem writeResult_f (n : Reg8) (res : ByteResult) (s : State) :
    (writeResult n res s).f = maskF res.flags := rfl

theorem same_writeReg8 {n : Reg8} (h : ¬(n = .f ∧ r = .flags)) (v : Byte) : r.Same s (writeReg8 n v s) := by
  cases r
  case flags => exact writeReg8_f_of_ne (fun hn => h ⟨hn, rfl⟩) v s
  all_goals simp [Resource.Same]

theorem same_writeResult (h : r ≠ .flags) (n : Reg8) (res : ByteResult) : r.Same s (writeResult n res s) := by
  cases r
  case flags => exact absurd rfl h
  all_goals simp [Resource.Same]

theorem setPC_frame (v : Int) : (setPC p v s).Holds (r.Same s) :=
  setPC_holds (.refl r s) fun _ _ => by cases r <;> simp [Resource.Same]

theorem setSP_frame (h : r ≠ .sp) (v : Int) : (setSP p v s).Holds (r.Same s) :=
  setSP_holds (.refl r s) fun _ _ => by cases r <;> simp_all [Resource.Same]

theorem memWrite_frame (h : r ≠ .mem) (a : Int) (v : Byte) : (memWrite p a v s).Holds (r.Same s) :=
  memWrite_holds (.refl r s) fun _ _ => by cases r <;> simp_all [Resource.Same]

theorem pushPC_frame (h : r ≠ .callStack) : (pushPC p s).Holds (r.Same s) :=
  pushPC_holds (.refl r s) fun _ => by cases r <;> simp_all [Resource.Same]

theorem popPC_frame (h : r ≠ .callStack) : (popPC p s).Holds (r.Same s) :=
  popPC_holds (.refl r s) fun _ _ _ _ => by cases r <;> simp_all [Resource.Same]

theorem writeReg16_frame {n : Reg16} (h : ¬(Endpoint.reg16 n).Writes r) (v : Word) :
    (writeReg16 p n v s).Holds (r.Same s) := by
  have hpair : ∀ (hi lo : Reg8), hi ≠ .f → ¬(lo = .f ∧ r = .flags) →
      r.Same s (writeReg8 lo (loByte v) (writeReg8 hi (hiByte v) s)) := fun hi lo hhi hlo =>
    (same_writeReg8 (fun hf => hhi hf.1) _).trans (same_writeReg8 hlo _)
  cases n with
  | pc => exact setPC_frame _
  | sp => exact setSP_frame (fun hr => h (.inr ⟨rfl, hr⟩)) _
  | bus => cases r <;> simp [writeReg16, Resource.Same]
  | af => exact hpair .a .f (by simp) fun hf => h (.inl ⟨rfl, hf.2⟩)
  | bc => exact hpair .b .c (by simp) (by simp)
  | de => exact hpair .d .e (by simp) (by simp)
  | hl => exact hpair .h .l (by simp) (by simp)
  | tmp => exact hpair .th .tl (by simp) (by simp)

theorem transfer_frame (src : Endpoint) {dst : Endpoint} (h : ¬dst.Writes r) :
    (transfer p src dst s).Holds (r.Same s) := by
  cases src <;> cases dst
  case reg8.reg8 m n => exact same_writeReg8 h _
  case reg8.mem m q => exact memWrite_frame h _ _
  case mem.reg8 q n => exact transfer_load_holds (.refl r s) fun v => same_writeReg8 h v
  case reg16.reg16 m n => exact writeReg16_frame h _
  all_goals trivial

theorem rpCell_writes {rr : Rp} : (Endpoint.reg16 (rpCell rr)).Writes r ↔ rr = .sp ∧ r = .sp := by
  cases rr <;> simp [Endpoint.Writes, rpCell]

theorem runEffect_frame {e : Effect} (h : ¬e.Writes r) : (runEffect p e s).Holds (r.Same s) := by
  cases e with
  | incPC | jumpRel => exact setPC_frame _
  | fde =>
    exact fetchDecodeExecute_holds (.refl r s) (by cases r <;> simp [Resource.Same])
      fun _ => by cases r <;> simp [Resource.Same]
  | inc8 | dec8 | alu | rotA | cb => exact same_writeResult h _ _
  | inc16 | dec16 => exact writeReg16_frame (fun hw => h (rpCell_writes.1 hw)) _
  | pushPC => exact pushPC_frame h
  | popPC => exact popPC_frame h
  | clearFB => cases r <;> simp_all [runEffect, Effect.Writes, Resource.Same]

/-- A micro-operation that does not write a resource leaves it, an error included. -/
theorem runOp_frame {op : MicroOp} (h : ¬op.Writes r) : (runOp p op s).Holds (r.Same s) := by
  cases op with
  | transfer src dst => exact transfer_frame src h
  | effect e => exact runEffect_frame h

/-- No resource is part of the schedule, the latched error or the decode's flags. -/
theorem same_withSchedule (r : Resource) (s : State) (now : Nat) (q : Queue) (err : Option CoreError) :
    r.Same s { s.withSchedule now q with fault := err } := by
  cases r <;> simp [Resource.Same, State.withSchedule]

/-- A plan none of whose micro-operations writes a resource leaves it, its errors included. -/
theorem runPlan_frame {now dur : Nat} {ops : List (Nat × MicroOp)} {t : State}
    (hops : ∀ x ∈ ops, ¬x.2.Writes r) (ht : runPlan p now dur ops s = .next t) : r.Same s t := by
  induction ops generalizing s with
  | nil => cases ht; exact same_withSchedule r s _ _ s.fault
  | cons x ops ih =>
    obtain ⟨k, op⟩ := x
    have hop : (runOp p op s).Holds (r.Same s) := runOp_frame (hops (k, op) (by simp))
    rw [runPlan] at ht
    cases hr : runOp p op s with
    | done u =>
      rw [hr] at ht hop
      exact hop.trans (ih (fun x hx => hops x (by simp [hx])) ht)
    | raised e u =>
      rw [hr] at ht hop
      cases ht
      exact hop.trans (same_withSchedule r u _ _ _)
    | refused e => rw [hr] at ht; cases ht

theorem regCell_ne_f (g : GReg) : regCell g ≠ .f := by cases g <;> simp [regCell]

theorem pairHi_ne_f (rr : Pair) : pairHi rr ≠ .f := by cases rr <;> simp [pairHi]

theorem pairLo_ne_f (rr : Pair) : pairLo rr ≠ .f := by cases rr <;> simp [pairLo]

/-- The plan of a descriptor writes only the descriptor's resources. -/
theorem planFor_frame {d : Descriptor} (h : ¬d.Writes r) (taken : Bool) :
    ∀ x ∈ (planFor d taken).ops, ¬x.2.Writes r := by
  cases d <;> cases taken <;> simp_all [Descriptor.Writes, planFor, planNop, planLd16, planLdSP16, planLd8I, planLdRR,
    planLdHL, planStHL, planInc8, planDec8, planInc16, planDec16, planAluR, planAluHL, planAluI, planRotA, planCbR,
    planCbHL, planJumpRel, planNoJump, planJp, planCall, planRet, planPrefix, planCls, immRead, memRd, memWr, internal,
    move16, MicroOp.Writes, Endpoint.Writes, Effect.Writes, regCell_ne_f, pairHi_ne_f, pairLo_ne_f]

/-- An instruction leaves every resource its descriptor does not write, an error on the way included. -/
theorem exec_frame {i : Instr} {t : State} (h : ¬i.descriptor.Writes r) (ht : exec i s = .next t) : r.Same s t := by
  by_cases hf : s.fault = none
  · rw [exec_eq_runPlan i hf] at ht
    have hstart : r.Same s { s with seeded := true, ext := decide (i.descriptor = .prefixCB) } := by
      cases r <;> simp [Resource.Same]
    refine hstart.trans (runPlan_frame (fun x hx => ?_) ht)
    rcases List.mem_cons.1 hx with rfl | hx
    · exact id
    · exact planFor_frame h _ x hx
  · rw [exec_eq_runDescriptor, runDescriptor_of_faulted _ hf] at ht
    cases ht
    exact .refl r s

end Frame

/-! ### The rows that write each resource -/

theorem writes_sp_iff (i : Instr) :
    i.descriptor.Writes .sp ↔ i = .ld_sp_d16 ∨ i = .inc_sp ∨ i = .dec_sp := by
  cases i <;> simp [Instr.descriptor, Descriptor.Writes]

theorem writes_callStack_iff (i : Instr) : i.descriptor.Writes .callStack ↔ i = .call_a16 ∨ i = .ret := by
  cases i <;> simp [Instr.descriptor, Descriptor.Writes]

theorem writes_fb_iff (i : Instr) : i.descriptor.Writes .fb ↔ i = .cls := by
  cases i <;> simp [Instr.descriptor, Descriptor.Writes]

theorem writes_mem_iff (d : Descriptor) : d.Writes .mem ↔ (∃ r, d = .stHL r) ∨ ∃ op, d = .cbHL op := by
  cases d <;> simp [Descriptor.Writes]

theorem not_writes_timersAndKeys (d : Descriptor) : ¬d.Writes .timersAndKeys := by
  cases d <;> simp [Descriptor.Writes]

theorem writes_flags_cases {d : Descriptor} (h : d.Writes .flags) :
    (∃ r, d = .inc8 r) ∨ (∃ r, d = .dec8 r) ∨ (∃ op r, d = .aluR op r) ∨ (∃ op, d = .aluHL op) ∨
      (∃ op, d = .aluI op) ∨ (∃ op, d = .rotA op) ∨ (∃ op r, d = .cbR op r) ∨ ∃ op, d = .cbHL op := by
  cases d <;> simp_all [Descriptor.Writes]

/-- Settles O38: each resource is left by every row whose descriptor does not write it. -/
theorem instructionFrame : Obligations.InstructionFrame := by
  intro i s t ht
  obtain ⟨hdt, hst, htt, hkeys⟩ : Resource.timersAndKeys.Same s t := exec_frame (not_writes_timersAndKeys _) ht
  refine ⟨fun hinc hdec haluR haluHL haluI hrot hcbR hcbHL => ?_, fun hld hinc hdec => ?_, fun hcall hret => ?_,
    fun hcls => ?_, fun hstHL hcbHL => ?_, hdt, hst, htt, hkeys⟩
  · refine exec_frame (r := .flags) (fun hw => ?_) ht
    rcases writes_flags_cases hw with ⟨r, h⟩ | ⟨r, h⟩ | ⟨op, r, h⟩ | ⟨op, h⟩ | ⟨op, h⟩ | ⟨op, h⟩ | ⟨op, r, h⟩ | ⟨op, h⟩
    · exact hinc r h
    · exact hdec r h
    · exact haluR op r h
    · exact haluHL op h
    · exact haluI op h
    · exact hrot op h
    · exact hcbR op r h
    · exact hcbHL op h
  · refine exec_frame (r := .sp) (fun hw => ?_) ht
    rcases (writes_sp_iff i).1 hw with h | h | h
    · exact hld h
    · exact hinc h
    · exact hdec h
  · refine exec_frame (r := .callStack) (fun hw => ?_) ht
    rcases (writes_callStack_iff i).1 hw with h | h
    · exact hcall h
    · exact hret h
  · exact exec_frame (r := .fb) (fun hw => hcls ((writes_fb_iff i).1 hw)) ht
  · refine exec_frame (r := .mem) (fun hw => ?_) ht
    rcases (writes_mem_iff _).1 hw with ⟨r, h⟩ | ⟨op, h⟩
    · exact hstHL r h
    · exact hcbHL op h

end Sys2Proof.Machine

/-! ## The call stack -/

namespace Sys2Proof.Machine

/-- A pop of an address of memory takes it off the stack and writes it to `PC`. -/
theorem popPC_of_append {p : Params} {s : State} {rest : List Word} {w : Word} (h : s.callStack = rest ++ [w])
    (hw : w.toNat < p.memSize) : popPC p s = .done { s with pc := w, callStack := rest } := by
  rcases popPC_cases p s with ⟨hnil, -⟩ | ⟨rest', w', h', -, e⟩ | ⟨rest', w', h', hle, -⟩
  · simp [h] at hnil
  · obtain ⟨rfl, rfl⟩ : rest = rest' ∧ w = w' := by simpa using h.symm.trans h'
    exact e
  · obtain ⟨-, rfl⟩ : rest = rest' ∧ w = w' := by simpa using h.symm.trans h'
    omega

/-- Pushes within the free capacity put the addresses on the stack in order and change nothing else. -/
theorem pushAll_of_le {p : Params} (as : List Word) {s : State}
    (h : s.callStack.length + as.length ≤ p.callStackCapacity) :
    pushAll p as s = .done { s with callStack := s.callStack ++ as } := by
  induction as generalizing s with
  | nil => simp [pushAll]
  | cons a as ih =>
    rw [List.length_cons] at h
    rcases push_cases p a s with ⟨-, e⟩ | ⟨hfull, -⟩
    · simp only [pushAll, e]
      rw [ih (by simp only [List.length_append, List.length_singleton]; omega)]
      simp
    · omega

/-- Pops return the top of the stack first. -/
theorem popAll_of_append {p : Params} {rest : List Word} (as : List Word) {s : State}
    (h : s.callStack = rest ++ as.reverse) (has : ∀ a ∈ as, a.toNat < p.memSize) :
    popAll p as.length s = some as := by
  induction as generalizing s with
  | nil => rfl
  | cons a as ih =>
    rw [List.reverse_cons, ← List.append_assoc] at h
    simp only [List.length_cons, popAll, popPC_of_append h (has a (by simp))]
    rw [ih (s := { s with pc := a, callStack := rest ++ as.reverse }) rfl fun b hb => has b (by simp [hb])]
    rfl

/-- Settles O14: what the pushes put on the stack in order, the pops return from its top. -/
theorem callStackIsLifo : Obligations.CallStackIsLifo := by
  intro p as s has hcap
  refine ⟨_, pushAll_of_le as hcap, ?_⟩
  rw [← List.length_reverse]
  exact popAll_of_append (rest := s.callStack) as.reverse (by rw [List.reverse_reverse])
    fun a ha => has a (List.mem_reverse.1 ha)

/-! ## Power-on and construction -/

/-- The handler contract holds of every decode ROM's plans, since it holds of every plan (spec/30_encoding.md R113). -/
theorem plansWellFormed_planFor (rom : Rom) : Rom.plansWellFormed planFor rom = true := by
  simp only [Rom.plansWellFormed, List.all_eq_true]
  intro ext _ b _
  cases rom ext b with
  | none => rfl
  | some i => simp only [planFor_wellFormed, Bool.and_self]

/-- In the reference ROM `PREFIX` stands at `PREFIX_BYTE` alone (R112, R113). -/
theorem prefixUnique_reference : Rom.prefixUnique referenceRom 0xCB = true := by decide +kernel

theorem romWellFormed_reference : romWellFormed Params.reference = true := by
  rw [romWellFormed, plansWellFormed_planFor, Bool.and_true]
  exact prefixUnique_reference

theorem inRange_reference : Params.reference.inRange = true := by decide

/-- The reference parameters construct a core, at power-on. -/
theorem construct_reference : construct Params.reference = .next State.reset := by
  rw [construct, inRange_reference, romWellFormed_reference]; rfl

/-- No pixel of a clear framebuffer is set. -/
theorem pixel_of_clear {s : State} (h : s.fb = FrameBuffer.clear) (row : Fin fbRows) (col : Fin fbCols) :
    pixel s row col = false := by
  simp [pixel, h, FrameBuffer.clear]

/-- Settles O5: reset is the power-on state that the reference parameters construct. -/
theorem powerOnValues : Obligations.PowerOnValues := by
  refine ⟨construct_reference, ?_⟩
  simp only [State.reset, powerOn_a, powerOn_f, powerOn_b, powerOn_c, powerOn_d, powerOn_e, powerOn_h, powerOn_l,
    powerOn_th, powerOn_tl, powerOn_pc, powerOn_sp, powerOn_bus, powerOn_ext, powerOn_seeded, powerOn_fault,
    powerOn_tickCount, powerOn_queue, powerOn_callStack, powerOn_mem, powerOn_dt, powerOn_st, powerOn_timerTicks,
    powerOn_keys, true_and]
  exact ⟨rfl, fun _ => rfl, fun row col => pixel_of_clear rfl row col⟩

/-- The power-on state of parameters in range satisfies the invariant (spec/10_state.md R60). -/
theorem inv_powerOn {p : Params} (hp : p.inRange = true) : Inv p (State.powerOn p) := by
  simp only [Params.inRange, Bool.and_eq_true, decide_eq_true_eq] at hp
  obtain ⟨⟨⟨⟨hpos, -⟩, -⟩, -⟩, hpc⟩ := hp
  exact {
    memCanonical := rfl
    memInRange := by simp
    flagsLow := by simp
    pcInRange := hpc
    spInRange := hpos
    stackBound := Nat.zero_le _
    stackAddresses := by simp
    faultedIdle := fun _ => rfl
    unseededIdle := fun _ => rfl
    running := fun _ hs => by simp at hs }

/-- Settles O28: reset is the power-on state at the reference parameters. -/
theorem resetSatisfiesInv : Obligations.ResetSatisfiesInv := inv_powerOn inRange_reference

/-! ## Pairs and the flag byte -/

/-- Settles O10: each pair is read and written through its two cells. -/
theorem pairViews : Obligations.PairViews := by
  intro p v s
  refine ⟨readReg16_eq_wide .bc s, readReg16_eq_wide .de s, readReg16_eq_wide .hl s, readReg16_eq_wide .tmp s,
    readReg16_eq_wide .af s, ?_⟩
  simp only [writeReg16, writeReg8_at_a, writeReg8_at_f, writeReg8_at_b, writeReg8_at_c, writeReg8_at_d,
    writeReg8_at_e, writeReg8_at_h, writeReg8_at_l, writeReg8_at_th, writeReg8_at_tl]
  exact ⟨rfl, rfl, rfl, rfl, rfl⟩

/-- Clearing the low four bits drops the remainder modulo 16. -/
theorem toNat_maskF (v : Byte) : (maskF v).toNat = v.toNat - v.toNat % 16 := by
  have hshift : maskF v = (v >>> 4) <<< 4 := by
    ext i hi
    interval_cases i <;> simp [maskF]
  have hlt := v.isLt
  rw [hshift, BitVec.toNat_shiftLeft, BitVec.toNat_ushiftRight, Nat.shiftRight_eq_div_pow, Nat.shiftLeft_eq]
  omega

/-- A masked flag byte's low four bits read 0. -/
theorem toNat_maskF_mod (v : Byte) : (maskF v).toNat % 16 = 0 := by
  rw [toNat_maskF]; omega

/-- An effect that writes `F` writes a masked byte. -/
theorem runEffect_flags (p : Params) (e : Effect) (s : State) :
    (runEffect p e s).Holds fun t => t.f = s.f ∨ t.f.toNat % 16 = 0 := by
  by_cases hw : e.Writes .flags
  · cases e
    case inc8 | dec8 | alu | rotA | cb => exact .inr (toNat_maskF_mod _)
    all_goals simp [Effect.Writes] at hw
  · have hframe : (runEffect p e s).Holds (Resource.flags.Same s) := runEffect_frame hw
    cases hr : runEffect p e s with
    | done t | raised _ t => rw [hr] at hframe; exact .inl hframe
    | refused => trivial

/-- Settles O11: every write of `F` goes through `maskF`. -/
theorem flagsLowBits : Obligations.FlagsLowBits := by
  intro p s
  refine ⟨toNat_maskF_mod s.f, toNat_maskF, fun v t ht => ?_, fun v => ?_, fun e t _ ht => ?_⟩
  · cases ht
    have hlo : (loByte v).toNat = v.toNat % 256 := by simp [loByte, BitVec.extractLsb'_toNat]
    show (maskF (loByte v)).toNat = _
    rw [toNat_maskF, hlo]
    omega
  · rw [← toNat_maskF, BitVec.ofNat_toNat, BitVec.setWidth_eq]; rfl
  · have h := runEffect_flags p e s
    rw [ht] at h
    exact h

end Sys2Proof.Machine

/-! ## Memory accesses and the program region -/

namespace Sys2Proof.Machine

/-! ### One access -/

section Access

variable {p : Params} {a : Int} {s : State}

theorem memRead_of_inRange (h0 : 0 ≤ a) (h1 : a < p.memSize) : memRead p a s = .ok (s.mem.read a.toNat) := by
  rcases memRead_cases p a s with ⟨-, -, e⟩ | ⟨hout, -⟩
  · exact e
  · exact absurd ⟨h0, h1⟩ hout

theorem memRead_of_outside (h : ¬(0 ≤ a ∧ a < p.memSize)) : memRead p a s = .error (.outOfRangeAccess a) := by
  rcases memRead_cases p a s with ⟨h0, h1, -⟩ | ⟨-, e⟩
  · exact absurd ⟨h0, h1⟩ h
  · exact e

theorem memWrite_of_working (h0 : 0 ≤ a) (h1 : a < p.memSize) (hw : p.progEnd ≤ a) (v : Byte) :
    memWrite p a v s = .done { s with mem := s.mem.write a.toNat v } := by
  rcases memWrite_cases p a v s with ⟨-, -, -, e⟩ | ⟨hout, -⟩
  · exact e
  · exact absurd ⟨h0, h1, hw⟩ hout

theorem memWrite_of_not_working (h : ¬(0 ≤ a ∧ a < p.memSize ∧ p.progEnd ≤ a)) (v : Byte) :
    memWrite p a v s = .raised (.outOfRangeAccess a) s := by
  rcases memWrite_cases p a v s with ⟨h0, h1, hw, -⟩ | ⟨-, e⟩
  · exact absurd ⟨h0, h1, hw⟩ h
  · exact e

end Access

theorem storesAt_write (m : Memory) (a : Nat) (v : Byte) : StoresAt m (m.write a v) a v :=
  ⟨Memory.read_write_same m a v, fun _ hk => Memory.read_write_other m v hk⟩

/-- Settles O9: an access succeeds exactly in memory, a write exactly in the working region. -/
theorem memoryAccess : Obligations.MemoryAccess := by
  intro p a v s
  refine ⟨fun hout => ?_, memRead_of_inRange, fun _ _ hprog => ?_, fun h0 h1 hw => ?_⟩
  · exact ⟨memRead_of_outside (by omega), memWrite_of_not_working (by omega) v⟩
  · exact memWrite_of_not_working (by omega) v
  · exact ⟨_, memWrite_of_working h0 h1 hw v, storesAt_write _ _ v⟩

/-! ### The program region through a micro-operation, a tick, an instruction and a step -/

/-- Every byte of the program region reads the same in both states. -/
def SameProgram (p : Params) (s t : State) : Prop := ∀ a < p.progEnd, t.mem.read a = s.mem.read a

theorem OpResult.Holds.imp {P Q : State → Prop} {r : OpResult} (h : r.Holds P) (hPQ : ∀ s, P s → Q s) :
    r.Holds Q := by
  cases r with
  | done s | raised _ s => exact hPQ s h
  | refused => trivial

/-- A tick ends by advancing the tick counter or by taking an error. -/
theorem OpResult.Holds.endTick {P : State → Prop} {r : OpResult} {t : State} (h : r.Holds P)
    (hnext : ∀ n s, P s → P { s with tickCount := n }) (herr : ∀ e s, P s → P (takeError e s))
    (ht : endTick r = .next t) : P t := by
  cases r with
  | done s => cases ht; exact hnext _ s h
  | raised e s => cases ht; exact herr e s h
  | refused => cases ht

section ProgramRegion

variable {p : Params} {s t u : State}

theorem SameProgram.of_mem (h : t.mem = s.mem) : SameProgram p s t := fun a _ => by rw [h]

theorem SameProgram.refl (p : Params) (s : State) : SameProgram p s s := .of_mem rfl

theorem SameProgram.trans (h : SameProgram p s t) (h' : SameProgram p t u) : SameProgram p s u :=
  fun a ha => (h' a ha).trans (h a ha)

/-- Only the working region is ever stored to (spec/20_memory.md R84). -/
theorem memWrite_sameProgram (a : Int) (v : Byte) : (memWrite p a v s).Holds (SameProgram p s) := by
  rcases memWrite_cases p a v s with ⟨h0, -, hw, e⟩ | ⟨-, e⟩ <;> rw [e]
  · exact fun b hb => Memory.read_write_other _ _ (by omega)
  · exact .refl p s

theorem not_writes_mem (e : Effect) : ¬e.Writes .mem := by cases e <;> simp [Effect.Writes]

/-- The one micro-operation that writes memory is a transfer into it, a `MemWrite`. -/
theorem runOp_sameProgram (op : MicroOp) : (runOp p op s).Holds (SameProgram p s) := by
  by_cases hw : op.Writes .mem
  · cases op with
    | effect e => exact absurd hw (not_writes_mem e)
    | transfer src dst =>
      cases dst with
      | mem q =>
        cases src with
        | reg8 n => exact memWrite_sameProgram _ _
        | reg16 | mem => trivial
      | reg8 | reg16 => simp [MicroOp.Writes, Endpoint.Writes] at hw
  · exact (runOp_frame hw).imp fun _ => SameProgram.of_mem

theorem runOps_sameProgram (ops : List MicroOp) : (runOps p ops s).Holds (SameProgram p s) :=
  runOps_holds (fun op _ h => (runOp_sameProgram op).imp fun _ => h.trans) ops (.refl p s)

/-- A boundary stores nothing. -/
theorem fetchDecodeExecute_mem : (fetchDecodeExecute p s).Holds fun t => t.mem = s.mem :=
  runEffect_frame (r := .mem) (e := .fde) (not_writes_mem .fde)

theorem fetchDecode_error_mem {e : CoreError} (h : fetchDecode p s = .error (e, u)) : u.mem = s.mem := by
  have hholds : (fetchDecodeExecute p s).Holds fun t => t.mem = s.mem := fetchDecodeExecute_mem
  rw [fetchDecodeExecute, h] at hholds
  exact hholds

theorem seed_mem : (seed p s).Holds fun t => t.mem = s.mem := by
  rw [seed]
  split
  · exact rfl
  · exact fetchDecodeExecute_mem

theorem runDue_sameProgram : (runDue p s).Holds (SameProgram p s) :=
  runOps_sameProgram (s := { s with queue := notDueAt s.tickCount s.queue }) _

theorem tick_sameProgram (ht : tick p s = .next t) : SameProgram p s t := by
  by_cases hf : s.fault = none
  · have hseed : (seed p s).Holds fun t => t.mem = s.mem := seed_mem
    simp only [tick, faulted_eq_false.2 hf, Bool.false_eq_true, if_false] at ht
    cases hr : seed p s with
    | done u =>
      rw [hr] at ht hseed
      have hdue : (runDue p u).Holds (SameProgram p s) :=
        runDue_sameProgram.imp fun _ => SameProgram.trans (.of_mem hseed)
      exact hdue.endTick (fun _ _ h => h) (fun _ _ h => h) ht
    | raised e u =>
      rw [hr] at ht hseed
      cases ht
      exact .of_mem hseed
    | refused => rw [hr] at ht; cases ht
  · rw [tick_of_faulted hf] at ht
    cases ht
    exact .refl p s

theorem ticks_sameProgram {n : Nat} (ht : ticks p n s = .next t) : SameProgram p s t := by
  induction n generalizing s with
  | zero => cases ht; exact .refl p _
  | succ n ih =>
    rw [ticks] at ht
    cases hr : tick p s with
    | next u => rw [hr] at ht; exact (tick_sameProgram hr).trans (ih ht)
    | fault => rw [hr] at ht; cases ht
    | refused => rw [hr] at ht; cases ht

/-- After its boundary, which stores nothing, an instruction is a number of ticks. -/
theorem exec_sameProgram {i : Instr} (ht : exec i s = .next t) : SameProgram Params.reference s t := by
  rw [exec_eq_runDescriptor, runDescriptor] at ht
  split at ht
  · cases ht; exact .refl _ s
  · exact ticks_sameProgram (s := { issue i.descriptor { s with seeded := true, queue := [] } with
      tickCount := s.tickCount + 1 }) ht

theorem step_sameProgram (ht : step s = .next t) : SameProgram Params.reference s t := by
  rw [step, stepWith] at ht
  split at ht
  · cases ht; exact .refl _ s
  · split at ht
    · cases hfd : fetchDecode Params.reference s with
      | error x =>
        have hmem : x.2.mem = s.mem := fetchDecode_error_mem hfd
        rw [hfd] at ht
        cases ht
        exact .of_mem hmem
      | ok i => rw [hfd] at ht; exact exec_sameProgram ht
    · exact tick_sameProgram ht

end ProgramRegion

/-- Settles O27: an instruction and a step are ticks, and no tick stores below `PROG_END`. -/
theorem programRegionIsReadOnly : Obligations.ProgramRegionIsReadOnly :=
  ⟨fun _ _ _ a ht => tick_sameProgram ht a, fun _ _ a ht => step_sameProgram ht a,
    fun _ _ _ a ht => exec_sameProgram ht a⟩

/-! ### The program region through the host's operations -/

/-- What an operation hands on is the state its caller is answered with. -/
theorem OpResult.Holds.hostReturn {P : State → Prop} {r : OpResult} {x : HostResult} (h : r.Holds P)
    (hx : hostReturn r = .next x) : P x.state := by
  cases r <;> cases hx <;> exact h

theorem resume_mem (s : State) : (resume s).mem = s.mem := by
  by_cases h : s.fault = none
  · rw [resume_of_not_faulted s h]
  · rw [resume_of_faulted s h]

/-- No operation of the host but the load changes a byte of the program region (spec/20_memory.md R98). -/
theorem hostStep_sameProgram {p : Params} {op : HostOp} {s : State} {r : HostResult} (hr : hostStep p op s = .next r)
    (hop : ∀ bytes base, op ≠ .loadRom bytes base) : SameProgram p s r.state := by
  cases op with
  | loadRom bytes base => exact absurd rfl (hop bytes base)
  | tick =>
    rw [hostStep] at hr
    cases ht : tick p s with
    | next t => rw [ht] at hr; cases hr; exact tick_sameProgram ht
    | fault => rw [ht] at hr; cases hr
    | refused => rw [ht] at hr; cases hr
  | write a v => exact (memWrite_sameProgram a v).hostReturn hr
  | set16 n v =>
    have hmem : (writeReg16 p n v s).Holds (Resource.mem.Same s) := writeReg16_frame (by simp [Endpoint.Writes]) v
    exact .of_mem (hmem.hostReturn hr)
  | read a =>
    rw [hostStep] at hr
    cases he : memRead p a s <;> rw [he] at hr <;> cases hr <;> exact .refl p s
  | resume => cases hr; exact .of_mem (resume_mem s)
  | set8 n v => cases hr; exact .of_mem (writeReg8_mem s v n)
  | setTimer t v => cases hr; exact .of_mem (writeTimer_mem s t v)
  | reset | timerTick | setKeys => cases hr; exact .of_mem rfl
  | get8 | get16 | callStack | getTimer | soundOn | getKeys | readFb | tickCount | fault => cases hr; exact .refl p s

/-! ### The load -/

/-- Storing a sequence puts its byte `i` at address `a + i`. -/
theorem Memory.read_writeBytes_getElem (m : Memory) (a : Nat) (vs : List Byte) {i : Nat} (h : i < vs.length) :
    (m.writeBytes a vs).read (a + i) = vs[i] := by
  induction vs generalizing m a i with
  | nil => simp at h
  | cons v vs ih =>
    rw [Memory.writeBytes]
    cases i with
    | zero => rw [Memory.read_writeBytes_other (.inl (by omega))]; exact Memory.read_write_same m a v
    | succ i =>
      rw [show a + (i + 1) = a + 1 + i by omega]
      exact ih _ _ (Nat.lt_of_succ_lt_succ h)

/-- The address reported is in the sequence and outside the program region, and every earlier one is inside it. -/
theorem firstOutside_spec {p : Params} {bytes : List Byte} {base : Int} (hne : bytes ≠ [])
    (h : base < 0 ∨ (p.progEnd : Int) < base + bytes.length) :
    ∃ i < bytes.length, firstOutside p bytes base = base + i ∧
      (firstOutside p bytes base < 0 ∨ (p.progEnd : Int) ≤ firstOutside p bytes base) ∧
      ∀ j < i, 0 ≤ base + j ∧ base + j < p.progEnd := by
  have hlen : 0 < bytes.length := List.length_pos_iff.2 hne
  have hempty : bytes.isEmpty = false := by simpa using hne
  simp only [firstOutside, hempty, Bool.false_eq_true, if_false]
  by_cases hneg : base < 0
  · rw [if_pos hneg]
    exact ⟨0, hlen, by omega, .inl hneg, fun j hj => by omega⟩
  by_cases hin : base < p.progEnd
  · rw [if_neg hneg, if_pos hin]
    exact ⟨(p.progEnd - base).toNat, by omega, by omega, .inr le_rfl, fun j hj => by omega⟩
  · rw [if_neg hneg, if_neg hin]
    exact ⟨0, hlen, by omega, .inr (by omega), fun j hj => by omega⟩

section Load

variable {p : Params} {bytes : List Byte} {base : Int} {s : State}

theorem loadRom_of_started (h : s.tickCount ≠ 0 ∨ s.seeded = true) :
    loadRom p bytes base s = .refused .romLoadAfterFirstTick := by
  rw [loadRom, if_pos h]

theorem loadRom_of_outside (htick : s.tickCount = 0) (hseed : s.seeded = false)
    (h : base < 0 ∨ (p.progEnd : Int) < base + bytes.length) :
    loadRom p bytes base s =
      .next { state := s, reply := .err (.outOfRangeAccess (firstOutside p bytes base)) } := by
  rw [loadRom, if_neg (by simp [htick, hseed]), if_pos h]

theorem loadRom_of_fits (htick : s.tickCount = 0) (hseed : s.seeded = false) (h0 : 0 ≤ base)
    (h : base + bytes.length ≤ p.progEnd) :
    loadRom p bytes base s =
      .next { state := { s with mem := s.mem.writeBytes base.toNat bytes }, reply := .ok } := by
  rw [loadRom, if_neg (by simp [htick, hseed]), if_neg (by omega)]

end Load

/-! In a namespace of its own, since `loadRom` names the model's operation. -/

namespace Settled

/-- Settles O21: the three outcomes of a load exclude each other, and every store but the load's is a `MemWrite`. -/
theorem loadRom : Obligations.LoadRom := by
  intro p bytes base s
  refine ⟨loadRom_of_started, fun htick hseed h => ?_, fun htick hseed h0 h => ?_, fun op r a hr hop => ?_⟩
  · exact ⟨_, loadRom_of_outside htick hseed h, fun hne => firstOutside_spec hne h⟩
  · exact ⟨_, loadRom_of_fits htick hseed h0 h, fun i hi => Memory.read_writeBytes_getElem _ _ bytes hi,
      fun a ha => Memory.read_writeBytes_other ha⟩
  · exact hostStep_sameProgram hr hop a

end Settled

end Sys2Proof.Machine

/-! ## The encoding: what decodes is exactly what the encoder writes -/

namespace Sys2Proof.Laws.OpcodeReads

/-- Every row of the opcode table stands where its family rule's bit pattern says. -/
theorem statement_all (i : Instr) : Statement i := by
  cases i
  exacts [
    nop, ld_bc_d16, inc_bc, inc_b, dec_b, ld_b_d8, rlca, dec_bc, inc_c, dec_c, ld_c_d8, rrca, ld_de_d16, inc_de,
    inc_d, dec_d, ld_d_d8, rla, jr_e8, dec_de, inc_e, dec_e, ld_e_d8, rra, jr_nz_e8, ld_hl_d16, inc_hl, inc_h, dec_h,
    ld_h_d8, jr_z_e8, dec_hl, inc_l, dec_l, ld_l_d8, jr_nc_e8, ld_sp_d16, inc_sp, jr_c_e8, dec_sp, inc_a, dec_a,
    ld_a_d8, ld_b_b, ld_b_c, ld_b_d, ld_b_e, ld_b_h, ld_b_l, ld_b_mhl, ld_b_a, ld_c_b, ld_c_c, ld_c_d, ld_c_e, ld_c_h,
    ld_c_l, ld_c_mhl, ld_c_a, ld_d_b, ld_d_c, ld_d_d, ld_d_e, ld_d_h, ld_d_l, ld_d_mhl, ld_d_a, ld_e_b, ld_e_c,
    ld_e_d, ld_e_e, ld_e_h, ld_e_l, ld_e_mhl, ld_e_a, ld_h_b, ld_h_c, ld_h_d, ld_h_e, ld_h_h, ld_h_l, ld_h_mhl,
    ld_h_a, ld_l_b, ld_l_c, ld_l_d, ld_l_e, ld_l_h, ld_l_l, ld_l_mhl, ld_l_a, ld_mhl_b, ld_mhl_c, ld_mhl_d, ld_mhl_e,
    ld_mhl_h, ld_mhl_l, ld_mhl_a, ld_a_b, ld_a_c, ld_a_d, ld_a_e, ld_a_h, ld_a_l, ld_a_mhl, ld_a_a, add_a_b, add_a_c,
    add_a_d, add_a_e, add_a_h, add_a_l, add_a_mhl, add_a_a, adc_a_b, adc_a_c, adc_a_d, adc_a_e, adc_a_h, adc_a_l,
    adc_a_mhl, adc_a_a, sub_a_b, sub_a_c, sub_a_d, sub_a_e, sub_a_h, sub_a_l, sub_a_mhl, sub_a_a, sbc_a_b, sbc_a_c,
    sbc_a_d, sbc_a_e, sbc_a_h, sbc_a_l, sbc_a_mhl, sbc_a_a, and_a_b, and_a_c, and_a_d, and_a_e, and_a_h, and_a_l,
    and_a_mhl, and_a_a, xor_a_b, xor_a_c, xor_a_d, xor_a_e, xor_a_h, xor_a_l, xor_a_mhl, xor_a_a, or_a_b, or_a_c,
    or_a_d, or_a_e, or_a_h, or_a_l, or_a_mhl, or_a_a, cp_a_b, cp_a_c, cp_a_d, cp_a_e, cp_a_h, cp_a_l, cp_a_mhl,
    cp_a_a, jp_a16, add_a_d8, ret, prefixCB, call_a16, adc_a_d8, cls, sub_a_d8, sbc_a_d8, and_a_d8, xor_a_d8, or_a_d8,
    cp_a_d8, rlc_b, rlc_c, rlc_d, rlc_e, rlc_h, rlc_l, rlc_mhl, rlc_a, rrc_b, rrc_c, rrc_d, rrc_e, rrc_h, rrc_l,
    rrc_mhl, rrc_a, rl_b, rl_c, rl_d, rl_e, rl_h, rl_l, rl_mhl, rl_a, rr_b, rr_c, rr_d, rr_e, rr_h, rr_l, rr_mhl,
    rr_a, sla_b, sla_c, sla_d, sla_e, sla_h, sla_l, sla_mhl, sla_a, sra_b, sra_c, sra_d, sra_e, sra_h, sra_l, sra_mhl,
    sra_a, swap_b, swap_c, swap_d, swap_e, swap_h, swap_l, swap_mhl, swap_a, srl_b, srl_c, srl_d, srl_e, srl_h, srl_l,
    srl_mhl, srl_a]

end Sys2Proof.Laws.OpcodeReads

namespace Sys2Proof

/-! ### The tables of the reference decode ROM -/

theorem mem_of_lookupRow {rows : List (Nat × Instr)} {b : Byte} {i : Instr} (h : lookupRow rows b = some i) :
    (b.toNat, i) ∈ rows := by
  induction rows with
  | nil => cases h
  | cons row rows ih =>
    rw [lookupRow] at h
    split at h
    next hk => cases h; rw [← beq_iff_eq.1 hk]; exact List.mem_cons_self
    next => exact List.mem_cons_of_mem _ (ih h)

theorem lookupRow_eq_none_iff {rows : List (Nat × Instr)} {b : Byte} :
    lookupRow rows b = none ↔ b.toNat ∉ rows.map Prod.fst := by
  induction rows with
  | nil => simp [lookupRow]
  | cons row rows ih =>
    rw [lookupRow]
    split
    next hk => simp [beq_iff_eq.1 hk]
    next hk =>
      simp only [ih, List.map_cons, List.mem_cons, not_or]
      exact (and_iff_right fun h => hk (beq_iff_eq.2 h.symm)).symm

/-- Each row of R124 is of a format other than FX, at the index its bit pattern gives. -/
theorem primaryRows_index : ∀ row ∈ primaryRows,
    row.2.descriptor.extended = false ∧ row.2.descriptor.opcode.toNat = row.1 := by decide +kernel

/-- Each row of R125 is of format FX, at the index its bit pattern gives. -/
theorem extendedRows_index : ∀ row ∈ extendedRows,
    row.2.descriptor.extended = true ∧ row.2.descriptor.opcode.toNat = row.1 := by decide +kernel

/-- The ROM holds an instruction at one index only: its opcode, in the table of its format (R111, R124, R125). -/
theorem referenceRom_eq_some_iff {ext : Bool} {b : Byte} {i : Instr} :
    referenceRom ext b = some i ↔ i.descriptor.extended = ext ∧ i.descriptor.opcode = b := by
  constructor
  · intro h
    cases ext with
    | false =>
      obtain ⟨hext, hop⟩ := primaryRows_index _ (mem_of_lookupRow h)
      exact ⟨hext, BitVec.eq_of_toNat_eq hop⟩
    | true =>
      obtain ⟨hext, hop⟩ := extendedRows_index _ (mem_of_lookupRow h)
      exact ⟨hext, BitVec.eq_of_toNat_eq hop⟩
  · rintro ⟨rfl, rfl⟩
    exact Laws.OpcodeReads.statement_all i

/-! ### The decoder -/

/-- One decode (R111) reads an opcode byte of the ROM and then exactly the operand bytes of its format. -/
theorem decodeOne_eq_ok_iff {rom : Rom} {ext : Bool} {bytes rest : List Byte} {l : Line} :
    decodeOne rom ext bytes = .ok (l, rest) ↔
      ∃ b, rom ext b = some l.instr ∧ l.operands.length = l.instr.descriptor.operandBytes ∧
        bytes = b :: (l.operands ++ rest) := by
  constructor
  · intro h
    cases bytes with
    | nil => cases h
    | cons b tail =>
      rw [decodeOne] at h
      split at h
      next => cases h
      next i hi =>
        split at h
        next => cases h
        next hlen =>
          cases h
          exact ⟨b, hi, by simp only [List.length_take]; omega, by simp⟩
  · rintro ⟨b, hb, hlen, rfl⟩
    simp only [decodeOne, hb, ← hlen]
    simp

/-- One decode of the reference ROM reads the opcode of a row of the table selected, and its operand bytes. -/
theorem decodeOne_referenceRom_iff {ext : Bool} {bytes rest : List Byte} {l : Line} :
    decodeOne referenceRom ext bytes = .ok (l, rest) ↔
      l.instr.descriptor.extended = ext ∧ l.operands.length = l.instr.descriptor.operandBytes ∧
        bytes = l.instr.descriptor.opcode :: (l.operands ++ rest) := by
  simp only [decodeOne_eq_ok_iff, referenceRom_eq_some_iff]
  constructor
  · rintro ⟨_, ⟨hext, rfl⟩, hlen, hbytes⟩
    exact ⟨hext, hlen, hbytes⟩
  · rintro ⟨hext, hlen, hbytes⟩
    exact ⟨_, ⟨hext, rfl⟩, hlen, hbytes⟩

/-- A line is one decode from the primary table, or `PREFIX` and then one decode from the extended table (R112). -/
theorem decodeLine_eq_ok_iff {rom : Rom} {bytes rest : List Byte} {l : Line} :
    decodeLine rom bytes = .ok (l, rest) ↔
      (l.instr ≠ .prefixCB ∧ decodeOne rom false bytes = .ok (l, rest)) ∨
      ∃ pre tail, pre.instr = .prefixCB ∧ decodeOne rom false bytes = .ok (pre, tail) ∧
        decodeOne rom true tail = .ok (l, rest) := by
  rw [decodeLine]
  cases decodeOne rom false bytes with
  | error e => simp
  | ok x =>
    obtain ⟨first, tail⟩ := x
    by_cases hp : first.instr = .prefixCB
    · simp only [hp, if_true]
      constructor
      · exact fun h => .inr ⟨first, tail, hp, rfl, h⟩
      · rintro (⟨hne, h⟩ | ⟨_, _, -, h, hl⟩) <;> cases h
        · exact absurd hp hne
        · exact hl
    · simp only [hp, if_false]
      constructor
      · intro h; cases h; exact .inl ⟨hp, rfl⟩
      · rintro (⟨-, h⟩ | ⟨_, _, hpre, h, -⟩)
        · exact h
        · cases h; exact absurd hpre hp

/-! ### The encoder and well-formed lines -/

theorem Line.wellFormed_iff {l : Line} :
    l.wellFormed = true ↔ l.instr ≠ .prefixCB ∧ l.operands.length = l.instr.descriptor.operandBytes := by
  simp [Line.wellFormed]

theorem encode_of_primary {l : Line} (h : l.instr.descriptor.extended = false) :
    encode l = l.instr.descriptor.opcode :: l.operands := by
  simp [encode, Descriptor.opcodeBytes, h]

theorem encode_of_extended {l : Line} (h : l.instr.descriptor.extended = true) :
    encode l = 0xCB :: l.instr.descriptor.opcode :: l.operands := by
  simp [encode, Descriptor.opcodeBytes, h]

/-- `PREFIX` stands in the primary table (R112). -/
theorem ne_prefixCB_of_extended {i : Instr} (h : i.descriptor.extended = true) : i ≠ .prefixCB := by
  rintro rfl
  cases h

/-- `PREFIX` decodes from its own byte and from no other, and takes no operand byte. -/
theorem decodeOne_prefixCB_iff {bytes tail : List Byte} :
    (∃ pre : Line, pre.instr = .prefixCB ∧ decodeOne referenceRom false bytes = .ok (pre, tail)) ↔
      bytes = 0xCB :: tail := by
  simp only [decodeOne_referenceRom_iff]
  constructor
  · rintro ⟨⟨_, operands⟩, rfl, -, hlen, rfl⟩
    rw [List.eq_nil_of_length_eq_zero hlen]; rfl
  · rintro rfl
    exact ⟨⟨.prefixCB, []⟩, rfl, rfl, rfl, rfl⟩

/-- The decoder over bytes answers exactly the well-formed lines, each from the bytes the encoder writes for it. -/
theorem decodeLine_referenceRom_iff {bytes rest : List Byte} {l : Line} :
    decodeLine referenceRom bytes = .ok (l, rest) ↔ l.wellFormed = true ∧ encode l ++ rest = bytes := by
  constructor
  · intro h
    rcases decodeLine_eq_ok_iff.1 h with ⟨hne, hone⟩ | ⟨pre, tail, hpre, hfirst, hone⟩
    · obtain ⟨hext, hlen, rfl⟩ := decodeOne_referenceRom_iff.1 hone
      exact ⟨Line.wellFormed_iff.2 ⟨hne, hlen⟩, by rw [encode_of_primary hext]; rfl⟩
    · obtain ⟨hext, hlen, rfl⟩ := decodeOne_referenceRom_iff.1 hone
      obtain rfl := decodeOne_prefixCB_iff.1 ⟨pre, hpre, hfirst⟩
      exact ⟨Line.wellFormed_iff.2 ⟨ne_prefixCB_of_extended hext, hlen⟩, by rw [encode_of_extended hext]; rfl⟩
  · rintro ⟨hwf, rfl⟩
    obtain ⟨hne, hlen⟩ := Line.wellFormed_iff.1 hwf
    cases hext : l.instr.descriptor.extended with
    | false =>
      rw [encode_of_primary hext]
      exact decodeLine_eq_ok_iff.2 (.inl ⟨hne, decodeOne_referenceRom_iff.2 ⟨hext, hlen, rfl⟩⟩)
    | true =>
      rw [encode_of_extended hext]
      obtain ⟨pre, hpre, hfirst⟩ := decodeOne_prefixCB_iff.2 rfl
      exact decodeLine_eq_ok_iff.2 (.inr ⟨pre, _, hpre, hfirst, decodeOne_referenceRom_iff.2 ⟨hext, hlen, rfl⟩⟩)

/-! ### The obligations -/

/-- Settles O1: the bytes the encoder writes for a well-formed line decode to it. -/
theorem encodeThenDecode : Obligations.EncodeThenDecode :=
  fun _ _ hwf => decodeLine_referenceRom_iff.2 ⟨hwf, rfl⟩

/-- Settles O2: whatever decodes is what the encoder writes for a well-formed line. -/
theorem decodeThenEncode : Obligations.DecodeThenEncode :=
  fun _ _ _ h => decodeLine_referenceRom_iff.1 h

/-- The extended table is filled from its start, without a gap (R125). -/
theorem extendedRows_indices : extendedRows.map Prod.fst = List.range 0x40 := by decide

/-- Settles O3: a byte has no entry exactly when no row of its table is at its index. -/
theorem unknownOpcodesAreTheListed : Obligations.UnknownOpcodesAreTheListed := by
  refine ⟨fun b => lookupRow_eq_none_iff.trans ?_, fun b => lookupRow_eq_none_iff.trans ?_⟩
  · have hb : b.toNat < 256 := b.isLt
    generalize b.toNat = n at hb ⊢
    revert n
    decide +kernel
  · simp [extendedRows_indices]

end Sys2Proof

/-! ## The execution queue -/

namespace Sys2Proof.Machine

/-! ### What is due at each tick -/

theorem dueAt_append (k : Nat) (q q' : Queue) : dueAt k (q ++ q') = dueAt k q ++ dueAt k q' := by
  simp [dueAt]

/-- Nothing is due at a tick that no entry names. -/
theorem dueAt_eq_nil {k : Nat} {q : Queue} (h : ∀ x ∈ q, x.1 ≠ k) : dueAt k q = [] := by
  rw [dueAt, List.filter_eq_nil_iff.2 fun x hx => by simpa using h x hx]; rfl

theorem dueAt_singleton_same (t : Nat) (op : MicroOp) : dueAt t [(t, op)] = [op] := by simp [dueAt]

theorem dueAt_singleton_of_ne {t k : Nat} (h : k ≠ t) (op : MicroOp) : dueAt k [(t, op)] = [] :=
  dueAt_eq_nil fun x hx => by rw [List.mem_singleton.1 hx]; exact h.symm

/-- Scheduling in a queue in tick order puts the operation behind what its tick holds, and nothing at another tick. -/
theorem dueAt_schedule {t : Nat} {op : MicroOp} {q : Queue} (h : q.Ordered) (k : Nat) :
    dueAt k (schedule t op q) = dueAt k q ++ dueAt k [(t, op)] := by
  induction q with
  | nil => rfl
  | cons x q ih =>
    obtain ⟨n, o⟩ := x
    obtain ⟨hfirst, hrest⟩ := List.pairwise_cons.1 h
    rw [schedule]
    split
    · next =>
      calc dueAt k ((n, o) :: schedule t op q)
          = dueAt k [(n, o)] ++ dueAt k (schedule t op q) := dueAt_append k [(n, o)] _
        _ = dueAt k [(n, o)] ++ (dueAt k q ++ dueAt k [(t, op)]) := by rw [ih hrest]
        _ = dueAt k ((n, o) :: q) ++ dueAt k [(t, op)] := by
          rw [← List.append_assoc, ← dueAt_append]; rfl
    · next hlt =>
      have hsplit : dueAt k ((t, op) :: (n, o) :: q) = dueAt k [(t, op)] ++ dueAt k ((n, o) :: q) :=
        dueAt_append k [(t, op)] _
      by_cases hk : t = k
      · have hlate : dueAt k ((n, o) :: q) = [] := dueAt_eq_nil fun x hx => by
          rcases List.mem_cons.1 hx with rfl | hx
          · simp only; omega
          · have := hfirst x hx
            simp only at this
            omega
        rw [hsplit, hlate, List.append_nil, List.nil_append]
      · rw [hsplit, dueAt_singleton_of_ne (Ne.symm hk), List.append_nil, List.nil_append]

theorem ordered_scheduleAll {now : Nat} (ops : List (Nat × MicroOp)) {q : Queue} (h : q.Ordered) :
    (scheduleAll now ops q).Ordered := by
  induction ops generalizing q with
  | nil => exact h
  | cons x ops ih => exact ih (ordered_schedule h)

/-- A handler's pairs go behind what their ticks hold, in the handler's order. -/
theorem dueAt_scheduleAll {now : Nat} (ops : List (Nat × MicroOp)) {q : Queue} (h : q.Ordered) (k : Nat) :
    dueAt k (scheduleAll now ops q) = dueAt k q ++ dueAt k (atTicks now ops) := by
  induction ops generalizing q with
  | nil => simp [scheduleAll, atTicks, dueAt]
  | cons x ops ih =>
    obtain ⟨n, op⟩ := x
    rw [scheduleAll, ih (ordered_schedule h), dueAt_schedule h, List.append_assoc, ← dueAt_append]
    rfl

theorem dueAt_atTicks (now k : Nat) (ops : List (Nat × MicroOp)) :
    dueAt k (atTicks now ops) = (ops.filter fun x => now + x.1 == k).map (·.2) := by
  simp [dueAt, atTicks, List.filter_map, Function.comp_def]

/-- Draining a tick leaves every other tick's list. -/
theorem dueAt_notDueAt_of_ne {t k : Nat} (h : k ≠ t) (q : Queue) : dueAt k (notDueAt t q) = dueAt k q := by
  rw [dueAt, notDueAt, List.filter_filter, dueAt]
  congr 2
  funext x
  by_cases hx : x.1 = k
  · simp [hx, h]
  · simp [hx]

theorem dueAt_notDueAt_same (t : Nat) (q : Queue) : dueAt t (notDueAt t q) = [] :=
  dueAt_eq_nil fun x hx => by simpa [notDueAt] using (List.mem_filter.1 hx).2

/-- Settles O15: in a queue in tick order what is scheduled stands last at its own tick, and a drain is a filter. -/
theorem scheduleAndDrain : Obligations.ScheduleAndDrain := by
  intro q t op h
  refine ⟨?_, fun k hk => ?_, dueAt_notDueAt_same t q, fun k hk => dueAt_notDueAt_of_ne hk q, ordered_schedule h,
    h.filter _⟩
  · rw [dueAt_schedule h, dueAt_singleton_same]
  · rw [dueAt_schedule h, dueAt_singleton_of_ne hk, List.append_nil]

/-! ## The fetch-decode-execute step -/

/-- `PREFIX` is the only row with its descriptor (spec/30_encoding.md R131). -/
theorem descriptor_eq_prefixCB_iff (i : Instr) : i.descriptor = .prefixCB ↔ i = .prefixCB := by
  cases i <;> simp [Instr.descriptor]

section Fetch

variable {p : Params} {s : State}

/-- A boundary in memory fetches the byte at `PC`; a byte without an entry is unknown, and `EXT` is cleared
(spec/40_pipeline.md R168). -/
theorem fetchDecode_of_none (hpc : s.pc.toNat < p.memSize) (h : p.rom s.ext (s.byteAt 0) = none) :
    fetchDecode p s = .error (.unknownOpcode (s.byteAt 0) s.pc, { s with ext := false }) := by
  have hread : memRead p s.pc.toNat s = .ok (s.byteAt 0) := memRead_of_inRange (by omega) (by omega)
  simp only [fetchDecode, hread, h]

theorem fetchDecode_of_some {i : Instr} (hpc : s.pc.toNat < p.memSize) (h : p.rom s.ext (s.byteAt 0) = some i) :
    fetchDecode p s = .ok i := by
  have hread : memRead p s.pc.toNat s = .ok (s.byteAt 0) := memRead_of_inRange (by omega) (by omega)
  simp only [fetchDecode, hread, h]

/-- What an instruction issues at each tick: its increment of `PC`, its plan and the next boundary, behind what that
tick held (spec/40_pipeline.md R167). -/
theorem dueAt_issue (d : Descriptor) (h : s.queue.Ordered) (k : Nat) :
    dueAt k (issue d s).queue = dueAt k s.queue ++
      dueAt k (atTicks s.tickCount (((1, .effect .incPC) :: (plan d s).ops) ++ [((plan d s).dur, .effect .fde)])) := by
  have hinc : (schedule (s.tickCount + 1) (.effect .incPC) s.queue).Ordered := ordered_schedule h
  rw [issue_queue, dueAt_schedule (ordered_scheduleAll _ hinc), dueAt_scheduleAll _ hinc, dueAt_schedule h]
  simp only [List.append_assoc, ← dueAt_append]
  simp [atTicks]

end Fetch

/-- At the reference parameters `PC` is always in memory. -/
theorem pc_lt_memSize (s : State) : s.pc.toNat < Params.reference.memSize := s.pc.isLt

namespace Settled

/-- Settles O8: the byte at `PC` has no entry and nothing is scheduled, or its instruction is issued. -/
theorem fetchDecodeExecute : Obligations.FetchDecodeExecute := by
  intro p s hpc hq
  refine ⟨fun h => ?_, fun i h => ⟨(issue i.descriptor s).queue, ?_, fun t => ?_⟩⟩
  · simp only [runEffect, Machine.fetchDecodeExecute, fetchDecode_of_none hpc h]
  · have hext : decide (i = .prefixCB) = decide (i.descriptor = .prefixCB) :=
      decide_eq_decide.2 (descriptor_eq_prefixCB_iff i).symm
    simp only [runEffect, Machine.fetchDecodeExecute, fetchDecode_of_some hpc h, hext]
    rfl
  · rw [dueAt_issue _ hq, dueAt_atTicks]

end Settled

end Sys2Proof.Machine

/-! ## A step is an instruction, and an instruction is its ticks -/

namespace Sys2Proof.Machine

theorem ticks_one (p : Params) (s : State) : ticks p 1 s = tick p s := by
  rw [ticks]
  cases tick p s <;> rfl

section Boundary

variable {s : State} {i : Instr}

theorem step_of_faulted (hf : s.fault ≠ none) : step s = .next s := by
  simp only [step, stepWith, faulted_eq_true.2 hf, if_true]

theorem step_between (hf : s.fault = none) (hb : s.atBoundary = false) : step s = tick Params.reference s := by
  simp only [step, stepWith, faulted_eq_false.2 hf, hb, Bool.false_eq_true, if_false]

theorem step_of_decoded (hf : s.fault = none) (hb : s.atBoundary = true)
    (hi : referenceRom s.ext (s.byteAt 0) = some i) : step s = exec i s := by
  have hfetch : fetchDecode Params.reference s = .ok i := fetchDecode_of_some (pc_lt_memSize s) hi
  simp only [step, stepWith, faulted_eq_false.2 hf, hb, hfetch, Bool.false_eq_true, if_false, if_true]

/-- An unknown opcode takes its error in one tick. -/
theorem step_of_unknown (hf : s.fault = none) (hb : s.atBoundary = true)
    (hi : referenceRom s.ext (s.byteAt 0) = none) : step s = tick Params.reference s := by
  have hstep : fetchDecode Params.reference s = .error (_, _) := fetchDecode_of_none (pc_lt_memSize s) hi
  have htick : fetchDecode Params.reference { s with seeded := true, queue := [] } = .error (_, _) :=
    fetchDecode_of_none (pc_lt_memSize s) hi
  rw [tick_of_atBoundary Params.reference hf hb, fetchDecodeExecute, htick]
  simp only [step, stepWith, faulted_eq_false.2 hf, hb, hstep, Bool.false_eq_true, if_false, if_true]
  rfl

/-- A boundary's own tick issues the instruction decoded. -/
theorem tick_of_decoded (hf : s.fault = none) (hb : s.atBoundary = true)
    (hi : referenceRom s.ext (s.byteAt 0) = some i) :
    tick Params.reference s =
      .next { issue i.descriptor { s with seeded := true, queue := [] } with tickCount := s.tickCount + 1 } := by
  have hfetch : fetchDecode Params.reference { s with seeded := true, queue := [] } = .ok i :=
    fetchDecode_of_some (pc_lt_memSize s) hi
  rw [tick_of_atBoundary Params.reference hf hb, fetchDecodeExecute, hfetch]
  rfl

theorem duration_jrCC (cc : Cc) (f : Byte) : Forms.duration (.jrCC cc) f = if condition cc f then 12 else 8 := by
  cases cc with
  | z | c => rfl
  | nz => cases h : f.getLsbD 7 <;> simp only [Forms.duration, condition, flagZ, h] <;> rfl
  | nc => cases h : f.getLsbD 4 <;> simp only [Forms.duration, condition, flagC, h] <;> rfl

/-- The duration of a plan is that of the table of spec/40_pipeline.md R173, by the flags at the fetch. -/
theorem plan_dur (d : Descriptor) (s : State) : (plan d s).dur = Forms.duration d s.f := by
  cases d with
  | jrCC cc =>
    rw [duration_jrCC, plan, branchTaken]
    cases condition cc s.f <;> rfl
  | _ => rfl

/-- The ticks of an instruction's duration, from its boundary, are the instruction. -/
theorem ticks_duration (hf : s.fault = none) (hb : s.atBoundary = true)
    (hi : referenceRom s.ext (s.byteAt 0) = some i) :
    ticks Params.reference (Forms.duration i.descriptor s.f) s = exec i s := by
  have hpos : 4 ≤ (plan i.descriptor s).dur := planFor_dur_pos _ _
  obtain ⟨n, hn⟩ : ∃ n, (plan i.descriptor s).dur = n + 1 := ⟨(plan i.descriptor s).dur - 1, by omega⟩
  rw [exec_eq_runDescriptor, ← plan_dur, hn, ticks, tick_of_decoded hf hb hi]
  simp only [runDescriptor, faulted_eq_false.2 hf, hn, Bool.false_eq_true, if_false]
  rfl

end Boundary

/-- Settles O33: the decode of a boundary, or the tick between two, is all that a step adds. -/
theorem stepRunsDecoded : Obligations.StepRunsDecoded := by
  intro s hf
  exact ⟨fun i hb hi => step_of_decoded hf hb hi, step_between hf⟩

/-- Settles O36: the boundary's tick issues the plan, and the ticks left of its duration run it. -/
theorem boundaryTicksAreExec : Obligations.BoundaryTicksAreExec := by
  intro s i hf hb hi
  exact ticks_duration hf hb hi

/-- Settles O37: a step is one tick, but for an instruction, which is the ticks of its duration. -/
theorem stepIsTicks : Obligations.StepIsTicks := by
  intro s _
  have hone : step s = tick Params.reference s →
      ∃ n, 1 ≤ n ∧ n ≤ 24 ∧ ticks Params.reference n s = step s := fun h =>
    ⟨1, Nat.le_refl 1, by omega, by rw [ticks_one, h]⟩
  by_cases hf : s.fault = none
  · cases hb : s.atBoundary with
    | false => exact hone (step_between hf hb)
    | true =>
      cases hi : referenceRom s.ext (s.byteAt 0) with
      | none => exact hone (step_of_unknown hf hb hi)
      | some i =>
        have hpos : 4 ≤ (plan i.descriptor s).dur := planFor_dur_pos _ _
        have hle : (plan i.descriptor s).dur ≤ 24 := planFor_dur_le _ _
        rw [plan_dur] at hpos hle
        exact ⟨_, by omega, hle, (ticks_duration hf hb hi).trans (step_of_decoded hf hb hi).symm⟩
  · exact hone ((step_of_faulted hf).trans (tick_of_faulted hf).symm)

/-! ## The effects that move `PC` on -/

/-- The signed value of a byte (spec/00_scope.md R11) is the byte in two's complement. -/
theorem sext8_eq_toInt (b : Byte) : sext8 b = b.toInt := by
  rw [sext8, BitVec.toInt_eq_toNat_cond]
  split <;> split <;> omega

section ProgramCounter

variable {p : Params} {s : State}

theorem setPC_of_inRange {v : Int} (h0 : 0 ≤ v) (h1 : v < p.memSize) :
    setPC p v s = .done { s with pc := BitVec.ofInt 16 v } := by
  rw [setPC, if_pos ((inRange_iff p v).2 ⟨h0, h1⟩)]

theorem setPC_of_outside {v : Int} (h : ¬(0 ≤ v ∧ v < p.memSize)) :
    setPC p v s = .raised (.outOfRangeAccess v) s := by
  rw [setPC, if_neg (fun hv => h ((inRange_iff p v).1 hv))]

/-- An address of memory is its own word. -/
theorem toNat_ofInt_word {v : Int} (h0 : 0 ≤ v) (h1 : v < 0x10000) : ((BitVec.ofInt 16 v).toNat : Int) = v := by
  rw [BitVec.toNat_ofInt]
  omega

theorem jumpRel_eq_setPC (p : Params) (s : State) : jumpRel p s = setPC p (s.pc.toNat + s.tl.toInt) s := by
  rw [jumpRel, sext8_eq_toInt]; rfl

end ProgramCounter

/-- Settles O12: both effects are the range-checked write of `PC`, with an integer that is not wrapped. -/
theorem programCounterEffects : Obligations.ProgramCounterEffects := by
  intro p s hsize hpc
  refine ⟨fun hlt => ?_, fun htop => ?_, ?_⟩
  · have hnext : BitVec.ofInt 16 ((s.pc.toNat : Int) + 1) = s.pc + 1 := by
      apply BitVec.eq_of_toNat_eq
      have h := toNat_ofInt_word (v := (s.pc.toNat : Int) + 1) (by omega) (by omega)
      rw [toNat_add_one (by omega)]
      omega
    rw [runEffect, incPC, setPC_of_inRange (by omega) (by omega), hnext]
  · have hsum : (s.pc.toNat : Int) + 1 = p.memSize := by omega
    rw [runEffect, incPC, hsum, setPC_of_outside (by omega)]
  · rintro _ rfl
    rw [runEffect, jumpRel_eq_setPC]
    exact ⟨fun h0 h1 => ⟨_, toNat_ofInt_word h0 (by omega), setPC_of_inRange h0 h1⟩, setPC_of_outside⟩

/-! ## The handler plans -/

theorem condition_eq_true_iff (cc : Cc) (f : Byte) : condition cc f = true ↔ CcRule cc f := by
  cases cc <;> simp [condition, CcRule, flagZ, flagC]

/-- A descriptor without a branch condition has one plan (spec/40_pipeline.md R170). -/
theorem branchTaken_of_unconditional {d : Descriptor} (h : ∀ cc, d ≠ .jrCC cc) (f : Byte) : branchTaken d f = true := by
  cases d with
  | jrCC cc => exact absurd rfl (h cc)
  | _ => rfl

theorem readReg8_regCell (r : GReg) (s : State) : readReg8 (regCell r) s = s.reg r := by cases r <;> rfl

/-- Settles O7: the slots written out, and the plan chosen by the branch condition. -/
theorem handlerPlans : Obligations.HandlerPlans := by
  refine ⟨fun t r r' rr op ro co cc => ?_, fun d s h => ?_, fun cc s h => ?_, fun cc s h => ?_, readReg8_regCell,
    planFor_wellFormed⟩
  · -- each plan of Machine/Plans.lean is its timing slots of R172 one after another
    and_intros <;> rfl
  · rw [plan, branchTaken_of_unconditional h]
  · rw [plan, branchTaken, (condition_eq_true_iff cc s.f).2 h]
  · rw [plan, branchTaken, Bool.eq_false_iff.2 fun hc => h ((condition_eq_true_iff cc s.f).1 hc)]

/-! ## The top of memory -/

/-- `ImmRead` with `PC` at the last address raises at its increment, the address on the bus latch. -/
theorem runPlan_immRead_top {now dur m : Nat} {n : Reg8} {ops : List (Nat × MicroOp)} {s : State} (h : s.pc = 0xFFFF) :
    runPlan Params.reference now dur (immRead m n ++ ops) s =
      .next { s with
        bus := 0xFFFF, fault := some (.outOfRangeAccess 0x10000), tickCount := now + (4 * m + 1) + 1, queue := [] } := by
  simp only [immRead, List.cons_append, List.nil_append]
  rw [runPlan_done (runOp_moveBus .pc s), show readReg16 .pc s = 0xFFFF from h]
  exact runPlan_raised (runOp_incPC_top (s := { s with bus := 0xFFFF }) (by rw [h]; rfl))

/-- The plan of an instruction with operand bytes begins with the read of the first. -/
theorem planFor_ops_of_operand {d : Descriptor} (h : 1 ≤ d.operandBytes) (taken : Bool) :
    ∃ n rest, (planFor d taken).ops = immRead 1 n ++ rest := by
  cases d with
  | ld16 rr => exact ⟨pairHi rr, _, rfl⟩
  | ldSP16 | jp | call => exact ⟨.th, _, rfl⟩
  | ld8I r => exact ⟨regCell r, [], (List.append_nil _).symm⟩
  | aluI | jr => exact ⟨.tl, _, rfl⟩
  | jrCC cc => cases taken <;> exact ⟨.tl, _, rfl⟩
  | _ => exact absurd h (Nat.not_succ_le_zero 0)

section Top

variable {i : Instr} {s : State}

/-- An instruction whose first operand byte is the last of memory raises at the increment past that byte. -/
theorem exec_of_operand_top (hf : s.fault = none) (hop : 1 ≤ i.descriptor.operandBytes) (hpc : s.pc = 0xFFFE) :
    exec i s = .next ({ s with pc := 0xFFFF, bus := 0xFFFF }.errorAt (.outOfRangeAccess 0x10000) 5) := by
  have hext : i.descriptor ≠ .prefixCB := fun h => by simp [h, Descriptor.operandBytes] at hop
  have hlast : s.pc + 1 = 0xFFFF := by rw [hpc]; rfl
  obtain ⟨n, rest, hops⟩ : ∃ n rest, (plan i.descriptor s).ops = immRead 1 n ++ rest := planFor_ops_of_operand hop _
  rw [exec_of_lt i hf (by rw [hpc]; decide), hops, runPlan_immRead_top hlast, hlast, decide_eq_false hext]
  rfl

/-- An instruction whose second operand byte is the last of memory has read the first when it raises. -/
theorem exec_of_second_operand_top {n n' : Reg8} {rest : List (Nat × MicroOp)} (hf : s.fault = none)
    (hops : (plan i.descriptor s).ops = immRead 1 n ++ (immRead 2 n' ++ rest)) (hpc : s.pc = 0xFFFD) :
    exec i s = .next ((writeReg8 n (s.mem.read 0xFFFE) { s with pc := 0xFFFF, bus := 0xFFFF }).errorAt
      (.outOfRangeAccess 0x10000) 9) := by
  have hext : i.descriptor ≠ .prefixCB := fun h => by
    rw [h] at hops
    exact absurd hops.symm (List.cons_ne_nil _ _)
  have hlast : s.pc + 2 = 0xFFFF := by rw [hpc]; rfl
  have hbyte : s.byteAt 1 = s.mem.read 0xFFFE := by rw [State.byteAt, hpc]; rfl
  rw [exec_of_lt i hf (by rw [hpc]; decide), hops, runPlan_operand (by rw [hpc]; decide), hlast, hbyte,
    runPlan_immRead_top (writeReg8_pc _ _ n), decide_eq_false hext]
  cases n <;> rfl

/-- Writing the high cell of a pair keeps its low half. -/
theorem writeReg8_pairHi (rr : Pair) (v : Byte) (s : State) :
    writeReg8 (pairHi rr) v s = s.setPair (Forms.rp rr) (v ++ (s.pair (Forms.rp rr)).extractLsb' 0 8) := by
  cases rr <;>
    simp only [pairHi, Forms.rp, State.setPair, State.pair, extract_hi_append, extract_lo_append, writeReg8_at_b,
      writeReg8_at_d, writeReg8_at_h]

theorem descriptor_ld16 (rr : Pair) : (Forms.ld16 rr).descriptor = .ld16 rr := by cases rr <;> rfl

end Top

/-- Settles O60: the increment that raises is the opcode's, the first operand's or the second operand's. -/
theorem topOfMemory : Obligations.TopOfMemory := by
  intro i s hf
  refine ⟨fun hpc => ?_, exec_of_operand_top hf, ?_, ?_⟩
  · rw [exec_of_top i hf (by rw [hpc]; rfl), decide_eq_decide.2 (descriptor_eq_prefixCB_iff i)]
    rfl
  · rintro rr rfl hpc
    have hops : (plan (Forms.ld16 rr).descriptor s).ops = immRead 1 (pairHi rr) ++ (immRead 2 (pairLo rr) ++ []) := by
      rw [descriptor_ld16]; rfl
    rw [exec_of_second_operand_top hf hops hpc, writeReg8_pairHi]
    rfl
  · intro hi hpc
    obtain ⟨rest, hops⟩ : ∃ rest, (plan i.descriptor s).ops = immRead 1 .th ++ (immRead 2 .tl ++ rest) := by
      rcases hi with rfl | rfl | rfl <;> exact ⟨_, rfl⟩
    exact exec_of_second_operand_top hf hops hpc

end Sys2Proof.Machine

/-! ## An instruction under way -/

namespace Sys2Proof.Machine

/-- `s` within an instruction that is not the prefix, `n` of whose bytes `PC` has passed: the fetch has set `SEEDED` and
cleared `EXT` (spec/40_pipeline.md R166, R167). A run of slots hands such a state on with `s` alone changed. -/
def State.underway (n : Nat) (s : State) : State :=
  { s with seeded := true, ext := false, pc := s.pc + BitVec.ofNat 16 n }

section Underway

variable {s t : State} {now dur n m : Nat} {r : Reg8} {ops : List (Nat × MicroOp)}

@[simp] theorem writeReg8_underway (r : Reg8) (v : Byte) (n : Nat) (s : State) :
    writeReg8 r v (s.underway n) = (writeReg8 r v s).underway n := by cases r <;> rfl

@[simp] theorem readReg8_underway (r : Reg8) (n : Nat) (s : State) : readReg8 r (s.underway n) = readReg8 r s := by
  cases r <;> rfl

/-- An instruction of a known descriptor runs its plan under way, its opcode byte passed. -/
theorem exec_eq_underway {i : Instr} {d : Descriptor} (hi : i.descriptor = d) (hd : d ≠ .prefixCB)
    (hf : s.fault = none) (hpc : s.pc.toNat + 1 < 0x10000) :
    exec i s = runPlan Params.reference s.tickCount (plan d s).dur (plan d s).ops (s.underway 1) := by
  rw [exec_of_lt i hf hpc, hi, decide_eq_false hd]
  rfl

/-- A plan run to its end is at the boundary of its bytes and its duration. -/
theorem runPlan_underway_nil (h : t.tickCount = now) :
    runPlan Params.reference now dur [] (t.underway n) = .next (t.boundaryAfter n dur) := by
  subst h; rfl

/-- The operand byte of an instruction under way. -/
theorem runPlan_underway_operand (h : s.pc.toNat + 2 < 0x10000) :
    runPlan Params.reference now dur (immRead 1 r ++ ops) (s.underway 1) =
      runPlan Params.reference now dur ops ((writeReg8 r (s.byteAt 1) { s with bus := s.pc + 1 }).underway 2) := by
  rw [← writeReg8_underway]
  exact runPlan_operand h true false

/-- The two operand bytes of an instruction under way. -/
theorem runPlan_underway_operands {r' : Reg8} (h : s.pc.toNat + 3 < 0x10000) :
    runPlan Params.reference now dur (immRead 1 r ++ (immRead 2 r' ++ ops)) (s.underway 1) =
      runPlan Params.reference now dur ops
        ((writeReg8 r' (s.byteAt 2) (writeReg8 r (s.byteAt 1) { s with bus := s.pc + 2 })).underway 3) := by
  rw [← writeReg8_underway, ← writeReg8_underway]
  exact runPlan_operands h true false

/-- `MemRd` at `HL` of an instruction under way. -/
theorem runPlan_underway_memRd :
    runPlan Params.reference now dur (memRd m .hl r ++ ops) (s.underway n) =
      runPlan Params.reference now dur ops
        ((writeReg8 r (s.mem.read s.hlAddress) { s with bus := s.hlWord }).underway n) := by
  rw [← writeReg8_underway]
  exact runPlan_memRd

/-- A micro-operation that raises ends the plan with its error, `PC` past the bytes read. -/
theorem runPlan_underway_raised {k : Nat} {op : MicroOp} {e : CoreError} (ht : t.tickCount = now)
    (h : runOp Params.reference op (t.underway n) = .raised e (t.underway n)) :
    runPlan Params.reference now dur ((k, op) :: ops) (t.underway n) =
      .next ({ t with pc := t.pc + BitVec.ofNat 16 n }.errorAt e k) := by
  subst ht
  exact runPlan_raised h

/-- `MemWr` at `HL`, up to its store: the bus latch holds the address. -/
theorem runPlan_underway_memWr :
    runPlan Params.reference now dur (memWr m .hl r ++ ops) (s.underway n) =
      runPlan Params.reference now dur ((4 * m + 3, .transfer (.reg8 r) (.mem .bus)) :: ops)
        ({ s with bus := s.hlWord }.underway n) := by
  simp only [memWr, List.cons_append, List.nil_append]
  rw [runPlan_done (runOp_moveBus .hl _), readReg16_hl]
  rfl

/-- `MemWr` at an `HL` in the working region stores the byte. -/
theorem runPlan_underway_memWr_working (h : 0x8000 ≤ s.hlAddress) :
    runPlan Params.reference now dur (memWr m .hl r ++ ops) (s.underway n) =
      runPlan Params.reference now dur ops
        ({ s with bus := s.hlWord, mem := s.mem.write s.hlAddress (readReg8 r s) }.underway n) := by
  have hbus : readReg8 r { s with bus := s.hlWord } = readReg8 r s := by cases r <;> rfl
  rw [runPlan_underway_memWr, runPlan_done (runOp_writeBus (s := s) r rfl h), readReg8_underway, hbus]
  rfl

/-- `MemWr` at an `HL` in the program region raises at its store. -/
theorem runPlan_underway_memWr_program (h : s.hlAddress < 0x8000) :
    runPlan Params.reference s.tickCount dur (memWr m .hl r ++ ops) (s.underway n) =
      .next ({ s with pc := s.pc + BitVec.ofNat 16 n, bus := s.hlWord }.errorAt (.outOfRangeAccess s.hlAddress)
        (4 * m + 3)) := by
  rw [runPlan_underway_memWr]
  exact runPlan_underway_raised rfl (runOp_writeBus_program (s := s) r rfl h)

end Underway

/-! ## The loads -/

/-! ### Register codes and pairs as cells -/

theorem writeReg8_regCell (r : GReg) (v : Byte) (s : State) : writeReg8 (regCell r) v s = s.setReg r v := by
  cases r <;> rfl

@[simp] theorem setReg_tickCount (r : GReg) (v : Byte) (s : State) : (s.setReg r v).tickCount = s.tickCount := by
  cases r <;> rfl

@[simp] theorem setPair_tickCount (rr : Rp) (v : Word) (s : State) : (s.setPair rr v).tickCount = s.tickCount := by
  cases rr <;> rfl

/-- Writing the high cell of a pair and then its low cell writes the pair. -/
theorem writeReg8_pairLo_pairHi (rr : Pair) (hi lo : Byte) (s : State) :
    writeReg8 (pairLo rr) lo (writeReg8 (pairHi rr) hi s) = s.setPair (Forms.rp rr) (hi ++ lo) := by
  cases rr <;> simp only [pairHi, pairLo, Forms.rp, State.setPair, extract_hi_append, extract_lo_append] <;> rfl

/-! ### The descriptor of each load -/

theorem descriptor_ld8I (r : GReg) : (Forms.ld8I r).descriptor = .ld8I r := by cases r <;> rfl
theorem descriptor_ldRR (r r' : GReg) : (Forms.ldRR r r').descriptor = .ldRR r r' := by cases r <;> cases r' <;> rfl
theorem descriptor_ldHL (r : GReg) : (Forms.ldHL r).descriptor = .ldHL r := by cases r <;> rfl
theorem descriptor_stHL (r : GReg) : (Forms.stHL r).descriptor = .stHL r := by cases r <;> rfl

/-! ### The obligations -/

/-- Settles O39: the two operand bytes reach the high and the low cell of the pair. -/
theorem loadPairImmediate : Obligations.LoadPairImmediate := by
  intro rr s hf hpc
  calc exec (Forms.ld16 rr) s
    _ = runPlan Params.reference s.tickCount 12 (immRead 1 (pairHi rr) ++ (immRead 2 (pairLo rr) ++ []))
          (s.underway 1) := exec_eq_underway (descriptor_ld16 rr) nofun hf (by omega)
    _ = runPlan Params.reference s.tickCount 12 []
          (({ s with bus := s.pc + 2 }.setPair (Forms.rp rr) s.immediate).underway 3) := by
        rw [runPlan_underway_operands hpc, writeReg8_pairLo_pairHi]; rfl
    _ = _ := runPlan_underway_nil (setPair_tickCount ..)

/-- Settles O40: the operand bytes reach the latches, and the latches as a pair reach `SP`. -/
theorem loadStackPointer : Obligations.LoadStackPointer := by
  intro s hf hpc
  calc exec .ld_sp_d16 s
    _ = runPlan Params.reference s.tickCount 12 (immRead 1 .th ++ (immRead 2 .tl ++ [(11, move16 .tmp .sp)]))
          (s.underway 1) := exec_eq_underway (d := .ldSP16) rfl nofun hf (by omega)
    _ = runPlan Params.reference s.tickCount 12 [(11, move16 .tmp .sp)]
          ({ s with th := s.byteAt 1, tl := s.byteAt 2, bus := s.pc + 2 }.underway 3) := by
        rw [runPlan_underway_operands hpc, writeReg8_at_th, writeReg8_at_tl]
    _ = runPlan Params.reference s.tickCount 12 []
          ({ s with sp := s.immediate, th := s.byteAt 1, tl := s.byteAt 2, bus := s.pc + 2 }.underway 3) := by
        rw [runPlan_done (runOp_moveSP .tmp _), readReg16_eq_wide]; rfl
    _ = _ := runPlan_underway_nil rfl

/-- Settles O41: the operand byte reaches the register. -/
theorem loadRegisterImmediate : Obligations.LoadRegisterImmediate := by
  intro r s hf hpc
  calc exec (Forms.ld8I r) s
    _ = runPlan Params.reference s.tickCount 8 (immRead 1 (regCell r) ++ []) (s.underway 1) :=
        exec_eq_underway (descriptor_ld8I r) nofun hf (by omega)
    _ = runPlan Params.reference s.tickCount 8 []
          (({ s with bus := s.pc + 1 }.setReg r (s.byteAt 1)).underway 2) := by
        rw [runPlan_underway_operand hpc, writeReg8_regCell]
    _ = _ := runPlan_underway_nil (setReg_tickCount ..)

/-- Settles O42: the plan's one transfer reads the source cell as it writes the destination. -/
theorem loadRegisterRegister : Obligations.LoadRegisterRegister := by
  intro r r' s hf hpc
  have hcopy : runOp Params.reference (.transfer (.reg8 (regCell r')) (.reg8 (regCell r))) (s.underway 1) =
      .done ((s.setReg r (s.reg r')).underway 1) := by
    rw [runOp, transfer, writeReg8_underway, readReg8_underway, readReg8_regCell, writeReg8_regCell]
  calc exec (Forms.ldRR r r') s
    _ = runPlan Params.reference s.tickCount 4 [(3, .transfer (.reg8 (regCell r')) (.reg8 (regCell r)))]
          (s.underway 1) := exec_eq_underway (descriptor_ldRR r r') nofun hf hpc
    _ = runPlan Params.reference s.tickCount 4 [] ((s.setReg r (s.reg r')).underway 1) := runPlan_done hcopy
    _ = _ := runPlan_underway_nil (setReg_tickCount ..)

/-- Settles O43: the address is on the bus latch before the register, which may be `H` or `L`, is written. -/
theorem loadRegisterMemory : Obligations.LoadRegisterMemory := by
  intro r s hf hpc
  calc exec (Forms.ldHL r) s
    _ = runPlan Params.reference s.tickCount 8 (memRd 1 .hl (regCell r) ++ []) (s.underway 1) :=
        exec_eq_underway (descriptor_ldHL r) nofun hf hpc
    _ = runPlan Params.reference s.tickCount 8 []
          (({ s with bus := s.hlWord }.setReg r (s.mem.read s.hlAddress)).underway 1) := by
        rw [runPlan_underway_memRd, writeReg8_regCell]
    _ = _ := runPlan_underway_nil (setReg_tickCount ..)

/-- Settles O44: the plan is one `MemWr` at `HL`, which stores in the working region and raises below it. -/
theorem storeRegisterMemory : Obligations.StoreRegisterMemory := by
  intro r s hf hpc
  have hplan : exec (Forms.stHL r) s =
      runPlan Params.reference s.tickCount 8 (memWr 1 .hl (regCell r) ++ []) (s.underway 1) :=
    exec_eq_underway (descriptor_stHL r) nofun hf hpc
  refine ⟨fun hwork => ⟨_, ?_, storesAt_write s.mem s.hlAddress (s.reg r)⟩, fun hprog => ?_⟩
  · rw [hplan, runPlan_underway_memWr_working hwork, readReg8_regCell]
    exact runPlan_underway_nil rfl
  · rw [hplan]
    exact runPlan_underway_memWr_program hprog

end Sys2Proof.Machine

/-! ## The words of the opcode table -/

namespace Sys2Proof

/-- A word of one byte is looked up in the primary table. -/
theorem decodeTableWord_byte (w : Nat) : decodeTableWord 8 w = referenceRom false (BitVec.ofNat 8 w) := rfl

/-- A longer word that holds what the encoder writes for a well-formed line is that line's row. -/
theorem decodeTableWord_of_encode {nbits w : Nat} {l : Line} {rest : List Byte} (hbits : 8 < nbits)
    (hwf : l.wellFormed = true) (hbytes : encode l ++ rest = tableBytes nbits w) :
    decodeTableWord nbits w = some l.instr := by
  rw [decodeTableWord, if_neg (by omega), decodeLine_referenceRom_iff.2 ⟨hwf, hbytes⟩]

/-- Settles O4: each word holds the opcode bytes of its row, and 0x76 is a listed unknown opcode (R126). -/
theorem tableWordsDecode : Obligations.TableWordsDecode := by
  have hextended : decodeTableWord 16 0xCB37 = some .swap_a :=
    decodeTableWord_of_encode (l := ⟨.swap_a, []⟩) (rest := []) (by decide) rfl rfl
  have hunknown : decodeTableWord 8 0x76 = none := by
    rw [decodeTableWord_byte, unknownOpcodesAreTheListed.1]
    decide
  simp only [Obligations.TableWordsDecode, decodeTableWord_byte, referenceRom_eq_some_iff, hextended, hunknown]
  decide

end Sys2Proof

/-! ## The arithmetic -/

namespace Sys2Proof.Machine

/-! ### The flag byte and the rows of the spec -/

/-- `FlagsAre` speaks of the flag bits by name. -/
theorem flagsAre_iff {f : Byte} {Z N H C : Prop} : FlagsAre f Z N H C ↔
    (flagZ f = true ↔ Z) ∧ (flagN f = true ↔ N) ∧ (flagH f = true ↔ H) ∧ (flagC f = true ↔ C) ∧ f &&& 0x0F = 0 :=
  Iff.rfl

/-- A packed flag byte holds the propositions its Booleans decide (spec/10_state.md R38, R39). -/
theorem flagsAre_packFlags {z n h c : Bool} {Z N H C : Prop} (hz : z = true ↔ Z) (hn : n = true ↔ N)
    (hh : h = true ↔ H) (hc : c = true ↔ C) : FlagsAre (packFlags z n h c) Z N H C := by
  have hlow : packFlags z n h c &&& 0x0F = 0 := by rw [← maskF_packFlags]; exact maskF_low _
  rw [flagsAre_iff, flagZ_packFlags, flagN_packFlags, flagH_packFlags, flagC_packFlags]
  exact ⟨hz, hn, hh, hc, hlow⟩

/-- A byte that holds flags is stored in `F` as it is (R39). -/
theorem FlagsAre.maskF_eq {f : Byte} {Z N H C : Prop} (h : FlagsAre f Z N H C) : maskF f = f := by
  obtain ⟨-, -, -, -, hlow⟩ := h
  calc maskF f
    _ = f &&& 0xF0 ||| f &&& 0x0F := by rw [hlow]; exact BitVec.or_zero.symm
    _ = f &&& (0xF0 ||| 0x0F) := BitVec.and_or_distrib_left.symm
    _ = f := BitVec.and_allOnes

/-- Writing a result whose flag byte holds flags writes the two bytes (spec/42_arith.md R220). -/
theorem writeResult_of_flagsAre {r : ByteResult} {Z N H C : Prop} (h : FlagsAre r.flags Z N H C)
    (n : Reg8) (s : State) :
    writeResult n r s = { writeReg8 n r.val s with f := r.flags } := by
  rw [writeResult, writeReg8_at_f, h.maskF_eq]

theorem byte_eq_zero_iff (r : Byte) : r = 0 ↔ r.toNat = 0 := BitVec.toNat_inj.symm

/-- `trunc_8` of an integer is its remainder modulo 256 (spec/00_scope.md R11). -/
theorem natCast_toNat_ofInt_byte (i : Int) : ((BitVec.ofInt 8 i).toNat : Int) = i % 256 := by
  rw [BitVec.toNat_ofInt]; omega

theorem ofInt_byte_eq_zero_iff (i : Int) : BitVec.ofInt 8 i = 0 ↔ i % 256 = 0 := by
  rw [byte_eq_zero_iff, ← natCast_toNat_ofInt_byte]; omega

theorem ofNat_byte_eq_zero_iff (n : Nat) : BitVec.ofNat 8 n = 0 ↔ n % 256 = 0 := by
  rw [byte_eq_zero_iff, BitVec.toNat_ofNat]

/-- `Inc8` computes its rule, `C` being the carry flag from before (spec/42_arith.md R220). -/
theorem inc8Result_rule (v f : Byte) :
    Inc8Rule v.toNat (f.getLsbD 4 = true) (inc8Result v f).val (inc8Result v f).flags :=
  ⟨BitVec.toNat_ofNat .., flagsAre_packFlags (decide_eq_true_iff.trans (ofNat_byte_eq_zero_iff _)) (by simp)
    decide_eq_true_iff Iff.rfl⟩

/-- `Dec8` computes its rule (R221). -/
theorem dec8Result_rule (v f : Byte) :
    Dec8Rule v.toNat (f.getLsbD 4 = true) (dec8Result v f).val (dec8Result v f).flags :=
  ⟨natCast_toNat_ofInt_byte _, flagsAre_packFlags (decide_eq_true_iff.trans (ofInt_byte_eq_zero_iff _)) (by simp)
    decide_eq_true_iff Iff.rfl⟩

/-- `ADC` computes its row (R224); `ADD` is `ADC` with no carry in. -/
theorem addResult_rule (x v : Byte) (ci : Nat) :
    AluRule .adc x.toNat v.toNat ci (addResult x v ci).val (addResult x v ci).flags :=
  ⟨BitVec.toNat_ofNat .., flagsAre_packFlags (decide_eq_true_iff.trans (ofNat_byte_eq_zero_iff _)) (by simp)
    decide_eq_true_iff decide_eq_true_iff⟩

/-- `SBC` computes its row (R224); `SUB` and the flags of `CP` are those of `SBC` with no borrow in. -/
theorem subResult_rule (x v : Byte) (ci : Nat) :
    AluRule .sbc x.toNat v.toNat ci (subResult x v ci).val (subResult x v ci).flags :=
  ⟨natCast_toNat_ofInt_byte _, flagsAre_packFlags (decide_eq_true_iff.trans (ofInt_byte_eq_zero_iff _)) (by simp)
    decide_eq_true_iff decide_eq_true_iff⟩

/-- With no borrow in, `SBC` is the row of `SUB`. -/
theorem subResult_rule_zero (x v : Byte) :
    AluRule .sub x.toNat v.toNat 0 (subResult x v 0).val (subResult x v 0).flags := by
  simpa [AluRule] using subResult_rule x v 0

/-- A bitwise row (R224): the result `T`, `Z` of it, `H` as given, `N` and `C` clear. -/
theorem logicResult_rule {t : Byte} {h : Bool} {T : Nat} {H : Prop} (ht : t.toNat = T) (hh : h = true ↔ H) :
    (logicResult t h).val.toNat = T ∧ FlagsAre (logicResult t h).flags (T = 0) False H False := by
  subst ht
  exact ⟨rfl, flagsAre_packFlags (decide_eq_true_iff.trans (byte_eq_zero_iff t)) (by simp) hh (by simp)⟩

/-- Each operation computes its row of R224. -/
theorem aluResult_rule (op : AluOp) (x v f : Byte) :
    AluRule op x.toNat v.toNat (carryIn f) (aluResult op x v f).val (aluResult op x v f).flags := by
  cases op with
  | add => exact addResult_rule x v 0
  | adc => exact addResult_rule x v (bit (flagC f))
  | sub => exact subResult_rule_zero x v
  | sbc => exact subResult_rule x v (bit (flagC f))
  | and => exact logicResult_rule (BitVec.toNat_and ..) (by simp)
  | xor => exact logicResult_rule (BitVec.toNat_xor ..) (by simp)
  | or => exact logicResult_rule (BitVec.toNat_or ..) (by simp)
  | cp => exact ⟨rfl, (subResult_rule_zero x v).2⟩

/-- The rule of an operation fixes a flag byte as `F` holds it. -/
theorem AluRule.exists_flagsAre {op : AluOp} {x v c : Nat} {a f : Byte} (h : AluRule op x v c a f) :
    ∃ Z N H C, FlagsAre f Z N H C := by
  cases op <;> exact ⟨_, _, _, _, h.2⟩

/-! ### The effects -/

/-- The carry flag read through `F`'s mask is the carry flag (spec/10_state.md R39). -/
theorem carryBit_maskF (f : Byte) : (maskF f).getLsbD 4 = f.getLsbD 4 := flagC_maskF f

theorem carryIn_maskF (f : Byte) : carryIn (maskF f) = carryIn f := by rw [carryIn, carryBit_maskF, carryIn]

/-- `Alu(op, n)` writes `A` and `F` by the operation's row, from any 8-bit operand cell (R224). -/
theorem runEffect_alu (p : Params) (op : AluOp) (n : Reg8) (s : State) :
    ∃ a f, AluRule op s.a.toNat (readReg8 n s).toNat (carryIn s.f) a f ∧
      runEffect p (.alu op n) s = .done { s with a := a, f := f } := by
  have hrule := aluResult_rule op s.a (readReg8 n s) (maskF s.f)
  obtain ⟨Z, N, H, C, hflags⟩ := hrule.exists_flagsAre
  rw [carryIn_maskF] at hrule
  exact ⟨_, _, hrule, congrArg OpResult.done (writeResult_of_flagsAre hflags .a s)⟩

/-- `Inc8(r)` writes the register and `F` by its rule (R220). -/
theorem runEffect_inc8 (p : Params) (r : GReg) (s : State) :
    ∃ v f, Inc8Rule (s.reg r).toNat (s.f.getLsbD 4 = true) v f ∧
      runEffect p (.inc8 r) s = .done { s.setReg r v with f := f } := by
  have hrule := inc8Result_rule (s.reg r) (maskF s.f)
  rw [carryBit_maskF] at hrule
  refine ⟨_, _, hrule, ?_⟩
  rw [runEffect, effectInc8, writeResult_of_flagsAre (inc8Result_rule _ _).2, writeReg8_regCell, readReg8_regCell]
  rfl

/-- `Dec8(r)` writes the register and `F` by its rule (R221). -/
theorem runEffect_dec8 (p : Params) (r : GReg) (s : State) :
    ∃ v f, Dec8Rule (s.reg r).toNat (s.f.getLsbD 4 = true) v f ∧
      runEffect p (.dec8 r) s = .done { s.setReg r v with f := f } := by
  have hrule := dec8Result_rule (s.reg r) (maskF s.f)
  rw [carryBit_maskF] at hrule
  refine ⟨_, _, hrule, ?_⟩
  rw [runEffect, effectDec8, writeResult_of_flagsAre (dec8Result_rule _ _).2, writeReg8_regCell, readReg8_regCell]
  rfl

theorem inc16Result_eq_add_one (v : Word) : inc16Result v = v + 1 := by
  rw [inc16Result, BitVec.ofNat_add, BitVec.ofNat_toNat, BitVec.setWidth_eq]; rfl

theorem dec16Result_eq_sub_one (v : Word) : dec16Result v = v - 1 := by
  have h := v.isLt
  apply BitVec.eq_of_toNat_eq
  rw [dec16Result, BitVec.toNat_ofInt, BitVec.toNat_sub, show (1 : Word).toNat = 1 from rfl]
  omega

/-- A pair code reads as its pair (spec/30_encoding.md R117). -/
theorem readReg16_rpCell (rr : Rp) (s : State) : readReg16 (rpCell rr) s = s.pair rr := by
  rw [readReg16_eq_wide]; cases rr <;> rfl

/-- At the reference parameters writing a pair code writes its pair: `SP` can hold every 16-bit value. -/
theorem writeReg16_rpCell (rr : Rp) (v : Word) (s : State) :
    writeReg16 Params.reference (rpCell rr) v s = .done (s.setPair rr v) := by
  cases rr with
  | sp => exact setSP_word v s
  | bc | de | hl => rfl

/-- `Inc16(rr)` wraps at 16 bits and writes the pair alone (R222). -/
theorem runEffect_inc16 (rr : Rp) (s : State) :
    runEffect Params.reference (.inc16 rr) s = .done (s.setPair rr (s.pair rr + 1)) := by
  rw [runEffect, effectInc16, writeReg16_rpCell, readReg16_rpCell, inc16Result_eq_add_one]

/-- `Dec16(rr)` wraps at 16 bits and writes the pair alone (R223). -/
theorem runEffect_dec16 (rr : Rp) (s : State) :
    runEffect Params.reference (.dec16 rr) s = .done (s.setPair rr (s.pair rr - 1)) := by
  rw [runEffect, effectDec16, writeReg16_rpCell, readReg16_rpCell, dec16Result_eq_sub_one]

/-- Settles O16: the row holds of any operand cell, and each register and `TL` is one. -/
theorem aluEffect : Obligations.AluEffect := by
  intro p op s
  refine ⟨fun r => ?_, runEffect_alu p op .tl s⟩
  rw [← readReg8_regCell]
  exact runEffect_alu p op (regCell r) s

/-! ### An effect at the end of an instruction -/

@[simp] theorem reg_underway (r : GReg) (n : Nat) (s : State) : (s.underway n).reg r = s.reg r := by cases r <;> rfl

@[simp] theorem setReg_underway (r : GReg) (v : Byte) (n : Nat) (s : State) :
    (s.underway n).setReg r v = (s.setReg r v).underway n := by cases r <;> rfl

@[simp] theorem pair_underway (rr : Rp) (n : Nat) (s : State) : (s.underway n).pair rr = s.pair rr := by
  cases rr <;> rfl

@[simp] theorem setPair_underway (rr : Rp) (v : Word) (n : Nat) (s : State) :
    (s.underway n).setPair rr v = (s.setPair rr v).underway n := by cases rr <;> rfl

/-- `Internal(m, e)` at the end of a plan: the effect, then the boundary (spec/40_pipeline.md R172). -/
theorem runPlan_underway_internal {s t : State} {now dur n m : Nat} {e : Effect} (ht : t.tickCount = now)
    (h : runEffect Params.reference e (s.underway n) = .done (t.underway n)) :
    runPlan Params.reference now dur (internal m e) (s.underway n) = .next (t.boundaryAfter n dur) := by
  rw [internal, runPlan_done (show runOp Params.reference (.effect e) (s.underway n) = .done (t.underway n) from h)]
  exact runPlan_underway_nil ht

/-- An effect on a register and `F` at the end of a plan. -/
theorem runPlan_underway_setReg {s : State} {dur n m : Nat} {e : Effect} {r : GReg} {v f : Byte}
    (h : runEffect Params.reference e (s.underway n) = .done { (s.underway n).setReg r v with f := f }) :
    runPlan Params.reference s.tickCount dur (internal m e) (s.underway n) =
      .next ({ s.setReg r v with f := f }.boundaryAfter n dur) := by
  rw [setReg_underway] at h
  exact runPlan_underway_internal (t := { s.setReg r v with f := f }) (setReg_tickCount ..) h

/-- The last slot of an `ALU` plan, whatever cell its operand has reached. -/
theorem runPlan_underway_alu {dur n m : Nat} (op : AluOp) (r : Reg8) (s : State) :
    ∃ a f, AluRule op s.a.toNat (readReg8 r s).toNat (carryIn s.f) a f ∧
      runPlan Params.reference s.tickCount dur (internal m (.alu op r)) (s.underway n) =
        .next ({ s with a := a, f := f }.boundaryAfter n dur) := by
  obtain ⟨a, f, hrule, heff⟩ := runEffect_alu Params.reference op r (s.underway n)
  rw [readReg8_underway] at hrule
  exact ⟨a, f, hrule, runPlan_underway_internal (t := { s with a := a, f := f }) rfl heff⟩

/-! ### The descriptor of each row -/

theorem descriptor_inc8 (r : GReg) : (Forms.inc8 r).descriptor = .inc8 r := by cases r <;> rfl
theorem descriptor_dec8 (r : GReg) : (Forms.dec8 r).descriptor = .dec8 r := by cases r <;> rfl
theorem descriptor_inc16 (rr : Rp) : (Forms.inc16 rr).descriptor = .inc16 rr := by cases rr <;> rfl
theorem descriptor_dec16 (rr : Rp) : (Forms.dec16 rr).descriptor = .dec16 rr := by cases rr <;> rfl
theorem descriptor_aluR (op : AluOp) (r : GReg) : (Forms.aluR op r).descriptor = .aluR op r := by
  cases op <;> cases r <;> rfl
theorem descriptor_aluHL (op : AluOp) : (Forms.aluHL op).descriptor = .aluHL op := by cases op <;> rfl
theorem descriptor_aluI (op : AluOp) : (Forms.aluI op).descriptor = .aluI op := by cases op <;> rfl

/-! ### The obligations -/

/-- Settles O45: the plan is the one effect, which writes the register and `F` by its rule. -/
theorem incrementDecrementRegister : Obligations.IncrementDecrementRegister := by
  intro r s hf hpc
  constructor
  · obtain ⟨v, f, hrule, heff⟩ := runEffect_inc8 Params.reference r (s.underway 1)
    rw [reg_underway] at hrule
    exact ⟨v, f, hrule, (exec_eq_underway (descriptor_inc8 r) nofun hf hpc).trans (runPlan_underway_setReg heff)⟩
  · obtain ⟨v, f, hrule, heff⟩ := runEffect_dec8 Params.reference r (s.underway 1)
    rw [reg_underway] at hrule
    exact ⟨v, f, hrule, (exec_eq_underway (descriptor_dec8 r) nofun hf hpc).trans (runPlan_underway_setReg heff)⟩

/-- Settles O46: the plan is the one effect, which writes the pair alone. -/
theorem incrementDecrementPair : Obligations.IncrementDecrementPair := by
  intro rr s hf hpc
  constructor
  · rw [exec_eq_underway (descriptor_inc16 rr) nofun hf hpc]
    exact runPlan_underway_internal (setPair_tickCount ..) (by rw [runEffect_inc16, pair_underway, setPair_underway])
  · rw [exec_eq_underway (descriptor_dec16 rr) nofun hf hpc]
    exact runPlan_underway_internal (setPair_tickCount ..) (by rw [runEffect_dec16, pair_underway, setPair_underway])

/-- Settles O47: the plan is the one effect, its operand the register as it was. -/
theorem aluRegister : Obligations.AluRegister := by
  intro op r s hf hpc
  rw [exec_eq_underway (descriptor_aluR op r) nofun hf hpc, ← readReg8_regCell]
  exact runPlan_underway_alu op (regCell r) s

/-- Settles O48: the byte at `HL` reaches `TL`, and `TL` is the operand. -/
theorem aluMemory : Obligations.AluMemory := by
  intro op s hf hpc
  have hplan : exec (Forms.aluHL op) s =
      runPlan Params.reference s.tickCount 8 (internal 1 (.alu op .tl))
        ({ s with bus := s.hlWord, tl := s.mem.read s.hlAddress }.underway 1) :=
    (exec_eq_underway (descriptor_aluHL op) nofun hf hpc).trans runPlan_underway_memRd
  rw [hplan]
  exact runPlan_underway_alu op .tl { s with bus := s.hlWord, tl := s.mem.read s.hlAddress }

/-- Settles O49: the operand byte reaches `TL`, and `TL` is the operand. -/
theorem aluImmediate : Obligations.AluImmediate := by
  intro op s hf hpc
  have hplan : exec (Forms.aluI op) s =
      runPlan Params.reference s.tickCount 8 (internal 1 (.alu op .tl))
        ({ s with bus := s.pc + 1, tl := s.byteAt 1 }.underway 2) :=
    (exec_eq_underway (descriptor_aluI op) nofun hf (by omega)).trans (runPlan_underway_operand hpc)
  rw [hplan]
  exact runPlan_underway_alu op .tl { s with bus := s.pc + 1, tl := s.byteAt 1 }

end Sys2Proof.Machine

/-! ## The rotates, shifts and swap -/

namespace Sys2Proof.Machine

/-! ### Bits as numbers, and the results by the rows of the spec -/

theorem bit_eq_one_iff (b : Bool) : bit b = 1 ↔ b = true := by cases b <;> simp [bit]

theorem bit_le_one (b : Bool) : bit b ≤ 1 := by cases b <;> simp [bit]

/-- The bit `v[i]` is a digit of the number `v` (spec/00_scope.md R10). -/
theorem bit_getLsbD (v : Byte) (i : Nat) : bit (v.getLsbD i) = v.toNat / 2 ^ i % 2 := by
  rw [BitVec.getLsbD, Nat.testBit_eq_decide_div_mod_eq, bit]
  split <;> simp_all

theorem bit_bit7 (v : Byte) : bit (bit7 v) = v.toNat / 128 := by
  have hv := v.isLt
  rw [bit7, bit_getLsbD]
  omega

theorem bit_bit0 (v : Byte) : bit (bit0 v) = v.toNat % 2 := by rw [bit0, bit_getLsbD, pow_zero, Nat.div_one]

theorem bit7_eq_true_iff (v : Byte) : bit7 v = true ↔ v.toNat / 128 = 1 := by rw [← bit_bit7, bit_eq_one_iff]

theorem bit0_eq_true_iff (v : Byte) : bit0 v = true ↔ v.toNat % 2 = 1 := by rw [← bit_bit0, bit_eq_one_iff]

/-- A left shift leaves bit 0 free, so the bit that enters it does not carry. -/
theorem toNat_shiftLeftIn (v : Byte) (lo : Bool) : (shiftLeftIn v lo).toNat = 2 * v.toNat % 256 + bit lo := by
  have hlo := bit_le_one lo
  rw [shiftLeftIn, BitVec.toNat_ofNat]
  omega

/-- A right shift leaves bit 7 free. -/
theorem toNat_shiftRightIn (v : Byte) (hi : Bool) : (shiftRightIn v hi).toNat = v.toNat / 2 + 128 * bit hi := by
  have hv := v.isLt
  have hhi := bit_le_one hi
  rw [shiftRightIn, BitVec.toNat_ofNat]
  omega

/-- Each accumulator rotate computes its rule (spec/43_rotate_shift.md R260 to R263). -/
theorem rotAResult_rule (op : RotAOp) (v f : Byte) :
    RotARule op v.toNat (carryIn f) (rotAResult op v f).val (rotAResult op v f).flags := by
  have hclear : false = true ↔ False := by simp
  cases op with
  | rlca =>
    have hval : (shiftLeftIn v (bit7 v)).toNat = 2 * v.toNat % 256 + v.toNat / 128 := by
      rw [toNat_shiftLeftIn, bit_bit7]
    exact ⟨hval, flagsAre_packFlags hclear hclear hclear (bit7_eq_true_iff v)⟩
  | rrca =>
    have hval : (shiftRightIn v (bit0 v)).toNat = v.toNat / 2 + 128 * (v.toNat % 2) := by
      rw [toNat_shiftRightIn, bit_bit0]
    exact ⟨hval, flagsAre_packFlags hclear hclear hclear (bit0_eq_true_iff v)⟩
  | rla => exact ⟨toNat_shiftLeftIn .., flagsAre_packFlags hclear hclear hclear (bit7_eq_true_iff v)⟩
  | rra => exact ⟨toNat_shiftRightIn .., flagsAre_packFlags hclear hclear hclear (bit0_eq_true_iff v)⟩

/-- The rule of a rotate fixes a flag byte as `F` holds it. -/
theorem RotARule.exists_flagsAre {op : RotAOp} {v k : Nat} {a f : Byte} (h : RotARule op v k a f) :
    ∃ Z N H C, FlagsAre f Z N H C := by
  cases op <;> exact ⟨_, _, _, _, h.2⟩

/-- The result byte of an extended operation is its number of R264. -/
theorem toNat_cbValue (op : CbOp) (v : Byte) (k : Bool) : (cbValue op v k).toNat = cbNumber op v.toNat (bit k) := by
  cases op with
  | rlc => rw [cbValue, toNat_shiftLeftIn, bit_bit7]; rfl
  | rrc => rw [cbValue, toNat_shiftRightIn, bit_bit0]; rfl
  | rl => exact toNat_shiftLeftIn v k
  | rr => exact toNat_shiftRightIn v k
  | sla => exact toNat_shiftLeftIn v false
  | sra => rw [cbValue, toNat_shiftRightIn, bit_bit7]; rfl
  | swap =>
    have hv := v.isLt
    rw [cbValue, cbNumber, BitVec.toNat_ofNat]
    omega
  | srl => exact toNat_shiftRightIn v false

/-- The carry of an extended operation is the bit moved out (R264). -/
theorem bit_cbCarry (op : CbOp) (v : Byte) : bit (cbCarry op v) = cbBit op v.toNat := by
  cases op with
  | rlc | rl | sla => exact bit_bit7 v
  | rrc | rr | sra | srl => exact bit_bit0 v
  | swap => rfl

/-- Each extended operation computes its row of R264. -/
theorem cbResult_rule (op : CbOp) (v f : Byte) :
    CbRule op v.toNat (carryIn f) (cbResult op v f).val (cbResult op v f).flags := by
  have hval : (cbResult op v f).val.toNat = cbNumber op v.toNat (carryIn f) := toNat_cbValue op v (flagC f)
  have hzero : (cbResult op v f).val = 0 ↔ cbNumber op v.toNat (carryIn f) = 0 := by rw [byte_eq_zero_iff, hval]
  have hcarry : cbCarry op v = true ↔ cbBit op v.toNat = 1 := by rw [← bit_cbCarry, bit_eq_one_iff]
  exact ⟨hval, flagsAre_packFlags (decide_eq_true_iff.trans hzero) (by simp) (by simp) hcarry⟩

/-! ### The effects -/

/-- `RotA(op)` writes `A` and `F` by the operation's rule (R260 to R263). -/
theorem runEffect_rotA (p : Params) (op : RotAOp) (s : State) :
    ∃ a f, RotARule op s.a.toNat (carryIn s.f) a f ∧ runEffect p (.rotA op) s = .done { s with a := a, f := f } := by
  have hrule := rotAResult_rule op s.a (maskF s.f)
  obtain ⟨Z, N, H, C, hflags⟩ := hrule.exists_flagsAre
  rw [carryIn_maskF] at hrule
  exact ⟨_, _, hrule, congrArg OpResult.done (writeResult_of_flagsAre hflags .a s)⟩

/-- `Cb(op, n)` writes its cell and `F` by the operation's row (R264). -/
theorem runEffect_cb (p : Params) (op : CbOp) (n : Reg8) (s : State) :
    ∃ v f, CbRule op (readReg8 n s).toNat (carryIn s.f) v f ∧
      runEffect p (.cb op n) s = .done { writeReg8 n v s with f := f } := by
  have hrule := cbResult_rule op (readReg8 n s) (maskF s.f)
  have hflags := hrule.2
  rw [carryIn_maskF] at hrule
  exact ⟨_, _, hrule, congrArg OpResult.done (writeResult_of_flagsAre hflags n s)⟩

/-- `Cb(op, r)` on a programmer register. -/
theorem runEffect_cb_regCell (p : Params) (op : CbOp) (r : GReg) (s : State) :
    ∃ v f, CbRule op (s.reg r).toNat (carryIn s.f) v f ∧
      runEffect p (.cb op (regCell r)) s = .done { s.setReg r v with f := f } := by
  simpa only [readReg8_regCell, writeReg8_regCell] using runEffect_cb p op (regCell r) s

/-- Settles O17: the row holds of any operand cell, and each register and `TL` is one. -/
theorem cbEffect : Obligations.CbEffect := by
  intro p op s
  exact ⟨fun r => runEffect_cb_regCell p op r s, runEffect_cb p op .tl s⟩

/-! ### The descriptor of each row -/

theorem descriptor_rotA (op : RotAOp) : (Forms.rotA op).descriptor = .rotA op := by cases op <;> rfl
theorem descriptor_cbR (op : CbOp) (r : GReg) : (Forms.cbR op r).descriptor = .cbR op r := by
  cases op <;> cases r <;> rfl
theorem descriptor_cbHL (op : CbOp) : (Forms.cbHL op).descriptor = .cbHL op := by cases op <;> rfl

/-! ### The extended operations at `HL` -/

/-- `Cb(op, n)` within a plan: its cell and `F` are written by the operation's row. -/
theorem runPlan_underway_cb {now dur n m : Nat} {ops : List (Nat × MicroOp)} (op : CbOp) (r : Reg8) (s : State) :
    ∃ v f, CbRule op (readReg8 r s).toNat (carryIn s.f) v f ∧
      runPlan Params.reference now dur (internal m (.cb op r) ++ ops) (s.underway n) =
        runPlan Params.reference now dur ops ({ writeReg8 r v s with f := f }.underway n) := by
  obtain ⟨v, f, hrule, heff⟩ := runEffect_cb Params.reference op r (s.underway n)
  rw [readReg8_underway] at hrule
  rw [writeReg8_underway] at heff
  exact ⟨v, f, hrule, runPlan_done heff⟩

/-- An extended operation at `HL` up to its store: the byte read, the operation on `TL`, and the address still on the
bus latch. -/
theorem exec_cbHL_eq_store (op : CbOp) {s : State} (hf : s.fault = none) (hpc : s.pc.toNat + 1 < 0x10000) :
    ∃ v f, CbRule op (s.mem.read s.hlAddress).toNat (carryIn s.f) v f ∧
      exec (Forms.cbHL op) s = runPlan Params.reference s.tickCount 12 [(11, .transfer (.reg8 .tl) (.mem .bus))]
        ({ s with f := f, tl := v, bus := s.hlWord }.underway 1) := by
  have hplan : exec (Forms.cbHL op) s = runPlan Params.reference s.tickCount 12
      (internal 1 (.cb op .tl) ++ [(11, MicroOp.transfer (.reg8 .tl) (.mem .bus))])
      ({ s with bus := s.hlWord, tl := s.mem.read s.hlAddress }.underway 1) :=
    (exec_eq_underway (descriptor_cbHL op) nofun hf hpc).trans runPlan_underway_memRd
  rw [hplan]
  exact runPlan_underway_cb op .tl { s with bus := s.hlWord, tl := s.mem.read s.hlAddress }

/-! ### The obligations -/

/-- Settles O50: the plan is the one effect. -/
theorem rotateAccumulator : Obligations.RotateAccumulator := by
  intro op s hf hpc
  obtain ⟨a, f, hrule, heff⟩ := runEffect_rotA Params.reference op (s.underway 1)
  refine ⟨a, f, hrule, (exec_eq_underway (descriptor_rotA op) nofun hf hpc).trans ?_⟩
  exact runPlan_underway_internal (t := { s with a := a, f := f }) rfl heff

/-- Settles O51: the plan is the one effect, its operand the register as it was. -/
theorem extendedRegister : Obligations.ExtendedRegister := by
  intro op r s hf hpc
  obtain ⟨v, f, hrule, heff⟩ := runEffect_cb_regCell Params.reference op r (s.underway 1)
  rw [reg_underway] at hrule
  exact ⟨v, f, hrule, (exec_eq_underway (descriptor_cbR op r) nofun hf hpc).trans (runPlan_underway_setReg heff)⟩

/-- Settles O52: the store takes `TL` to the byte at `HL`, or raises with `F` and `TL` written. -/
theorem extendedMemory : Obligations.ExtendedMemory := by
  intro op s hf hpc
  obtain ⟨v, f, hrule, hplan⟩ := exec_cbHL_eq_store op hf hpc
  refine ⟨v, f, hrule, fun hwork => ⟨_, ?_, storesAt_write s.mem s.hlAddress v⟩, fun hprog => ?_⟩
  · rw [hplan, runPlan_done (runOp_writeBus (s := s) .tl rfl hwork)]
    rfl
  · rw [hplan]
    exact runPlan_underway_raised rfl (runOp_writeBus_program (s := s) .tl rfl hprog)

end Sys2Proof.Machine

/-! ## The jumps, the call and the return -/

namespace Sys2Proof.Machine

/-! ### Pushing and popping `PC` -/

section CallStack

variable {p : Params} {s : State}

theorem pushPC_of_lt (h : s.callStack.length < p.callStackCapacity) :
    pushPC p s = .done { s with callStack := s.callStack ++ [s.pc] } := by
  rw [pushPC, push, if_neg (Nat.not_le_of_lt h)]

theorem pushPC_of_full (h : s.callStack.length = p.callStackCapacity) : pushPC p s = .raised .callStackOverflow s := by
  rw [pushPC, push, if_pos h.ge]

theorem popPC_of_nil (h : s.callStack = []) : popPC p s = .raised .callStackUnderflow s := by
  rw [popPC, h]; rfl

/-- A pop of an address beyond memory leaves it on the stack. -/
theorem popPC_of_append_outside {rest : List Word} {w : Word} (h : s.callStack = rest ++ [w])
    (hw : p.memSize ≤ w.toNat) : popPC p s = .raised (.outOfRangeAccess w.toNat) s := by
  rw [popPC, h, List.getLast?_concat]
  simp only [setPC_of_outside (p := p) (v := w.toNat) (s := s) (by omega)]

end CallStack

/-- Settles O13: each effect by the depth of the stack, a pop also by the address on top. -/
theorem callStackEffects : Obligations.CallStackEffects := by
  intro p s _
  exact ⟨pushPC_of_full, pushPC_of_lt, popPC_of_nil, fun _ _ htop =>
    ⟨popPC_of_append htop, popPC_of_append_outside htop⟩⟩

/-! ### A write of `PC` at the end of an instruction -/

section Control

variable {s t u : State} {now dur n k : Nat} {op : MicroOp} {w : Word}

/-- A plan whose last micro-operation writes `PC` ends at a boundary there, not behind the bytes passed. -/
theorem runPlan_underway_writePC (h : runOp Params.reference op u = .done { t.underway n with pc := w })
    (ht : t.tickCount = now) :
    runPlan Params.reference now dur [(k, op)] u = .next { t.boundaryAfter n dur with pc := w } := by
  subst ht
  exact runPlan_done h

/-- The latches, with both operand bytes read, carry the immediate to `PC` (spec/44_control.md R298). -/
theorem runOp_jumpImmediate (hth : t.th = s.byteAt 1) (htl : t.tl = s.byteAt 2) :
    runOp Params.reference (move16 .tmp .pc) (t.underway n) = .done { t.underway n with pc := s.immediate } := by
  rw [runOp_movePC, readReg16_eq_wide, State.immediate, ← hth, ← htl]
  rfl

/-! ### The relative jumps -/

/-- With the displacement in `TL` and `PC` past the instruction, `JumpRel` writes the target to `PC`. -/
theorem jumpRel_underway (hpc : s.pc.toNat + 2 < 0x10000) :
    jumpRel Params.reference ({ s with tl := s.byteAt 1, bus := s.pc + 1 }.underway 2) =
      setPC Params.reference s.jumpTarget ({ s with tl := s.byteAt 1, bus := s.pc + 1 }.underway 2) := by
  have hnext : (({ s with tl := s.byteAt 1, bus := s.pc + 1 }.underway 2).pc.toNat : Int) = s.pc.toNat + 2 :=
    congrArg Nat.cast (toNat_add_two hpc)
  rw [jumpRel_eq_setPC, hnext]
  rfl

/-- The plan of a jump taken, its displacement read. -/
theorem runPlan_planJumpRel (hpc : s.pc.toNat + 2 < 0x10000) :
    runPlan Params.reference s.tickCount planJumpRel.dur planJumpRel.ops (s.underway 1) =
      runPlan Params.reference s.tickCount 12 [(11, .effect .jumpRel)]
        ({ s with tl := s.byteAt 1, bus := s.pc + 1 }.underway 2) :=
  runPlan_underway_operand hpc

theorem runPlan_planJumpRel_of_target (hpc : s.pc.toNat + 2 < 0x10000) (hw : (w.toNat : Int) = s.jumpTarget) :
    runPlan Params.reference s.tickCount planJumpRel.dur planJumpRel.ops (s.underway 1) =
      .next { { s with tl := s.byteAt 1, bus := s.pc + 1 }.boundaryAfter 2 12 with pc := w } := by
  rw [runPlan_planJumpRel hpc]
  exact runPlan_underway_writePC ((jumpRel_underway hpc).trans (by rw [← hw, setPC_word])) rfl

theorem runPlan_planJumpRel_of_outside (hpc : s.pc.toNat + 2 < 0x10000)
    (h : s.jumpTarget < 0 ∨ 0x10000 ≤ s.jumpTarget) :
    runPlan Params.reference s.tickCount planJumpRel.dur planJumpRel.ops (s.underway 1) =
      .next ({ s with pc := s.pc + 2, tl := s.byteAt 1, bus := s.pc + 1 }.errorAt
        (.outOfRangeAccess s.jumpTarget) 11) := by
  have hmem : ¬(0 ≤ s.jumpTarget ∧ s.jumpTarget < Params.reference.memSize) := by
    simp only [Params.reference]
    omega
  rw [runPlan_planJumpRel hpc]
  exact runPlan_underway_raised rfl ((jumpRel_underway hpc).trans (setPC_of_outside hmem))

/-- The plan of a jump not taken reads the displacement and ends past the instruction. -/
theorem runPlan_planNoJump (hpc : s.pc.toNat + 2 < 0x10000) :
    runPlan Params.reference s.tickCount planNoJump.dur planNoJump.ops (s.underway 1) =
      .next ({ s with tl := s.byteAt 1, bus := s.pc + 1 }.boundaryAfter 2 8) :=
  (runPlan_underway_operand (ops := []) hpc).trans (runPlan_underway_nil rfl)

theorem descriptor_jrCC (cc : Cc) : (Forms.jrCC cc).descriptor = .jrCC cc := by cases cc <;> rfl

theorem plan_jrCC_taken {cc : Cc} (h : CcRule cc s.f) : plan (.jrCC cc) s = planJumpRel := by
  rw [plan, branchTaken, (condition_eq_true_iff cc s.f).2 h]; rfl

theorem plan_jrCC_not_taken {cc : Cc} (h : ¬CcRule cc s.f) : plan (.jrCC cc) s = planNoJump := by
  rw [plan, branchTaken, Bool.eq_false_iff.2 (mt (condition_eq_true_iff cc s.f).1 h)]; rfl

/-! ### The absolute jump and the call -/

/-- `JP a16` up to its jump: the operand bytes on the latches. -/
theorem exec_jp_eq_jump (hf : s.fault = none) (hpc : s.pc.toNat + 3 < 0x10000) :
    exec .jp_a16 s = runPlan Params.reference s.tickCount 16 [(15, move16 .tmp .pc)]
      ({ s with th := s.byteAt 1, tl := s.byteAt 2, bus := s.pc + 2 }.underway 3) :=
  (exec_eq_underway (d := .jp) rfl nofun hf (by omega)).trans (runPlan_underway_operands hpc)

/-- `CALL a16` up to its push: the operand bytes on the latches, `PC` past the instruction. -/
theorem exec_call_eq_push (hf : s.fault = none) (hpc : s.pc.toNat + 3 < 0x10000) :
    exec .call_a16 s = runPlan Params.reference s.tickCount 24 [(19, .effect .pushPC), (23, move16 .tmp .pc)]
      ({ s with th := s.byteAt 1, tl := s.byteAt 2, bus := s.pc + 2 }.underway 3) :=
  (exec_eq_underway (d := .call) rfl nofun hf (by omega)).trans (runPlan_underway_operands hpc)

end Control

/-! ### The obligations -/

/-- Settles O53: the one plan of a jump taken, with its target in memory or beyond it. -/
theorem jumpRelative : Obligations.JumpRelative := by
  intro s hf hpc
  have hplan : exec .jr_e8 s =
      runPlan Params.reference s.tickCount planJumpRel.dur planJumpRel.ops (s.underway 1) :=
    exec_eq_underway (d := .jr) rfl nofun hf (by omega)
  rw [hplan]
  exact ⟨fun w hw => runPlan_planJumpRel_of_target hpc hw, runPlan_planJumpRel_of_outside hpc⟩

/-- Settles O54: the condition at the fetch selects the plan of `JR e8` or the one that reads the displacement alone. -/
theorem jumpConditional : Obligations.JumpConditional := by
  intro cc s hf hpc
  have hplan : exec (Forms.jrCC cc) s =
      runPlan Params.reference s.tickCount (plan (.jrCC cc) s).dur (plan (.jrCC cc) s).ops (s.underway 1) :=
    exec_eq_underway (descriptor_jrCC cc) nofun hf (by omega)
  rw [hplan]
  refine ⟨fun w hcc hw => ?_, fun hcc hout => ?_, fun hcc => ?_⟩
  · rw [plan_jrCC_taken hcc]
    exact runPlan_planJumpRel_of_target hpc hw
  · rw [plan_jrCC_taken hcc]
    exact runPlan_planJumpRel_of_outside hpc hout
  · rw [plan_jrCC_not_taken hcc]
    exact runPlan_planNoJump hpc

/-- Settles O55: the operand bytes reach the latches, and the latches as a pair reach `PC`. -/
theorem jumpAbsolute : Obligations.JumpAbsolute := by
  intro s hf hpc
  rw [exec_jp_eq_jump hf hpc]
  exact runPlan_underway_writePC (runOp_jumpImmediate rfl rfl) rfl

/-- Settles O56: the push comes before the jump, so an overflow leaves `PC` past the instruction. -/
theorem callSubroutine : Obligations.CallSubroutine := by
  intro s hf hpc
  rw [exec_call_eq_push hf hpc]
  refine ⟨fun hfree => ?_, fun hfull => runPlan_underway_raised rfl (pushPC_of_full hfull)⟩
  have hpush : runOp Params.reference (.effect .pushPC)
      ({ s with th := s.byteAt 1, tl := s.byteAt 2, bus := s.pc + 2 }.underway 3) =
      .done ({ s with th := s.byteAt 1, tl := s.byteAt 2, bus := s.pc + 2
                      callStack := s.callStack ++ [s.pc + 3] }.underway 3) := pushPC_of_lt hfree
  rw [runPlan_done hpush]
  exact runPlan_underway_writePC (runOp_jumpImmediate rfl rfl) rfl

/-- Settles O57: the plan is the one pop. -/
theorem returnFromSubroutine : Obligations.ReturnFromSubroutine := by
  intro s hf hpc
  have hplan : exec .ret s = runPlan Params.reference s.tickCount 16 [(15, .effect .popPC)] (s.underway 1) :=
    exec_eq_underway (d := .ret) rfl nofun hf hpc
  rw [hplan]
  refine ⟨fun rest t htop => ?_, fun hnil => runPlan_underway_raised rfl (popPC_of_nil hnil)⟩
  exact runPlan_underway_writePC (t := { s with callStack := rest }) (popPC_of_append htop t.isLt) rfl

/-- Settles O58: the return pops what the call pushed, if its own opcode byte is not the last of memory. -/
theorem callThenReturn : Obligations.CallThenReturn := by
  intro s hf hpc hfree himm
  obtain ⟨t, hcall, hpct, hstack, hft⟩ : ∃ t, exec .call_a16 s = .next t ∧ t.pc = s.immediate ∧
      t.callStack = s.callStack ++ [s.pc + 3] ∧ t.fault = none := ⟨_, (callSubroutine s hf hpc).1 hfree, rfl, rfl, hf⟩
  have hret : t.pc.toNat + 1 < 0x10000 := by rw [hpct]; bv_omega
  exact ⟨t, _, hcall, hpct, (returnFromSubroutine t hft hret).1 _ _ hstack, rfl, rfl, hft⟩

end Sys2Proof.Machine

/-! ## `NOP`, the prefix and `CLS` -/

namespace Sys2Proof.Machine

/-- `s` at the boundary behind a prefix byte, where the next byte is looked up in the extended table (spec/45_system.md
R311). -/
def State.afterPrefix (s : State) : State := { s.boundaryAfter 1 4 with ext := true }

section System

variable {s : State}

/-! ### The three instructions -/

/-- An instruction of four ticks with no micro-operation but its increment of `PC` goes to the next boundary, and `EXT`
is set there by the prefix alone (spec/45_system.md R310, R311). -/
theorem exec_of_empty_plan {i : Instr} (hf : s.fault = none) (hpc : s.pc.toNat + 1 < 0x10000)
    (hplan : plan i.descriptor s = { ops := [], dur := 4 }) :
    exec i s = .next { s.boundaryAfter 1 4 with ext := decide (i.descriptor = .prefixCB) } := by
  rw [exec_of_lt i hf hpc, hplan]
  rfl

theorem exec_prefixCB (hf : s.fault = none) (hpc : s.pc.toNat + 1 < 0x10000) :
    exec .prefixCB s = .next s.afterPrefix :=
  exec_of_empty_plan hf hpc rfl

theorem exec_cls (hf : s.fault = none) (hpc : s.pc.toNat + 1 < 0x10000) :
    exec .cls s = .next ((clearFB s).boundaryAfter 1 4) :=
  (exec_eq_underway (d := .cls) rfl nofun hf hpc).trans (runPlan_underway_internal (t := clearFB s) rfl rfl)

/-! ### An unknown opcode -/

/-- At a boundary an unknown opcode is latched with its address at the boundary's own tick (spec/60_exceptions.md
R321). -/
theorem step_of_unknown_eq_errorAt (hf : s.fault = none) (hb : s.atBoundary = true)
    (hrom : referenceRom s.ext (s.byteAt 0) = none) :
    step s = .next (s.errorAt (.unknownOpcode (s.byteAt 0) s.pc) 0) := by
  have hfetch : fetchDecode Params.reference s = .error (.unknownOpcode (s.byteAt 0) s.pc, { s with ext := false }) :=
    fetchDecode_of_none (pc_lt_memSize s) hrom
  simp only [step, stepWith, faulted_eq_false.2 hf, hb, hfetch, Bool.false_eq_true, if_false, if_true]
  rfl

/-! ### The boundary behind the prefix -/

@[simp] theorem afterPrefix_ext (s : State) : s.afterPrefix.ext = true := rfl
@[simp] theorem afterPrefix_fault (s : State) : s.afterPrefix.fault = s.fault := rfl
@[simp] theorem afterPrefix_pc (s : State) : s.afterPrefix.pc = s.pc + 1 := rfl

@[simp] theorem afterPrefix_atBoundary (s : State) : s.afterPrefix.atBoundary = true := by
  simp [State.afterPrefix, State.boundaryAfter, State.atBoundary]

/-- The opcode byte there is the byte that follows the prefix. -/
theorem afterPrefix_byteAt_zero (hpc : s.pc.toNat + 1 < 0x10000) : s.afterPrefix.byteAt 0 = s.byteAt 1 :=
  congrArg s.mem.read (toNat_add_one hpc)

/-- The lookup there is of the byte that follows the prefix, in the extended table. -/
theorem referenceRom_afterPrefix (hpc : s.pc.toNat + 1 < 0x10000) :
    referenceRom s.afterPrefix.ext (s.afterPrefix.byteAt 0) = referenceRom true (s.byteAt 1) := by
  rw [afterPrefix_ext, afterPrefix_byteAt_zero hpc]

end System

/-! ### The obligations -/

/-- Settles O59: two plans with nothing in them, and one that is the clearing of the framebuffer. -/
theorem systemInstructions : Obligations.SystemInstructions := by
  intro s hf hpc
  exact ⟨exec_of_empty_plan hf hpc rfl, exec_prefixCB hf hpc, _, exec_cls hf hpc, pixel_of_clear rfl, rfl⟩

/-- Settles O35: the prefix ends at a boundary with `EXT` set, so the next step reads the extended table, which has no
entry from 0x40 on. -/
theorem prefixThenExtended : Obligations.PrefixThenExtended := by
  intro s hf hb hext hbyte hpc
  have hprefix : referenceRom s.ext (s.byteAt 0) = some .prefixCB :=
    referenceRom_eq_some_iff.2 ⟨hext.symm, hbyte.symm⟩
  have hft : s.afterPrefix.fault = none := (afterPrefix_fault s).trans hf
  have hbt : s.afterPrefix.atBoundary = true := afterPrefix_atBoundary s
  have hlookup := referenceRom_afterPrefix hpc
  refine ⟨s.afterPrefix, rfl, (step_of_decoded hf hb hprefix).trans (exec_prefixCB hf hpc), fun i hi => ?_,
    fun hunknown => ?_⟩
  · exact step_of_decoded hft hbt (hlookup.trans hi)
  · have hnone : referenceRom true (s.byteAt 1) = none := (unknownOpcodesAreTheListed.2 _).2 hunknown
    rw [step_of_unknown_eq_errorAt hft hbt (hlookup.trans hnone), afterPrefix_byteAt_zero hpc, afterPrefix_pc]

end Sys2Proof.Machine

/-! ## What the host's operations leave unchanged -/

namespace Sys2Proof.Machine

/-- What a host operation other than a tick or a reset leaves of `s` in `t` (spec/60_exceptions.md R345). -/
structure HostFrame (op : HostOp) (s t : State) : Prop where
  ext : t.ext = s.ext := by rfl
  queue : t.queue = s.queue := by rfl
  callStack : t.callStack = s.callStack := by rfl
  tickCount : t.tickCount = s.tickCount := by rfl
  fb : t.fb = s.fb := by rfl
  seeded : op ≠ .resume → t.seeded = s.seeded := by exact fun _ => rfl
  fault : op ≠ .resume → t.fault = s.fault := by exact fun _ => rfl
  timerTicks : op ≠ .timerTick → t.timerTicks = s.timerTicks := by exact fun _ => rfl
  mem : (∀ a v, op ≠ .write a v) → (∀ bytes base, op ≠ .loadRom bytes base) → t.mem = s.mem := by exact fun _ _ => rfl

section HostFrameRules

variable {p : Params} {op : HostOp} {s : State} {r : HostResult}

theorem hostFrame_writeReg8 (op : HostOp) (n : Reg8) (v : Byte) (s : State) : HostFrame op s (writeReg8 n v s) := by
  constructor <;> simp

theorem hostFrame_writeTimer (op : HostOp) (t : Timer) (v : BitVec timerWidth) (s : State) :
    HostFrame op s (writeTimer t v s) := by
  constructor <;> simp

theorem writeReg16_hostFrame (op : HostOp) (n : Reg16) (v : Word) : (writeReg16 p n v s).Holds (HostFrame op s) := by
  cases n with
  | pc => exact setPC_holds {} fun _ _ => {}
  | sp => exact setSP_holds {} fun _ _ => {}
  | bus | af | bc | de | hl | tmp => rw [writeReg16, OpResult.holds_done]; exact {}

theorem memWrite_hostFrame (a : Int) (v : Byte) : (memWrite p a v s).Holds (HostFrame (.write a v) s) :=
  memWrite_holds {} fun _ _ => { mem := fun h _ => absurd rfl (h a v) }

/-- `resume()` does nothing, or clears a latched error and `SEEDED` (R330). -/
theorem resume_cases (s : State) :
    (s.fault = none ∧ resume s = s) ∨ (s.fault ≠ none ∧ resume s = { s with fault := none, seeded := false }) := by
  by_cases h : s.fault = none
  · exact .inl ⟨h, resume_of_not_faulted s h⟩
  · exact .inr ⟨h, resume_of_faulted s h⟩

theorem resume_hostFrame (s : State) : HostFrame .resume s (resume s) := by
  rcases resume_cases s with ⟨-, e⟩ | ⟨-, e⟩ <;> rw [e]
  · exact {}
  · exact { seeded := fun h => absurd rfl h, fault := fun h => absurd rfl h }

/-- A load answers with the state it was given or with the bytes stored. -/
theorem loadRom_cases {bytes : List Byte} {base : Int} (hr : loadRom p bytes base s = .next r) :
    r.state = s ∨ (0 ≤ base ∧ base + bytes.length ≤ p.progEnd ∧
      r.state = { s with mem := s.mem.writeBytes base.toNat bytes }) := by
  by_cases hstarted : s.tickCount ≠ 0 ∨ s.seeded = true
  · rw [loadRom_of_started hstarted] at hr; cases hr
  obtain ⟨htick, hseed⟩ : s.tickCount = 0 ∧ s.seeded = false := by simpa using hstarted
  by_cases hout : base < 0 ∨ (p.progEnd : Int) < base + bytes.length
  · rw [loadRom_of_outside htick hseed hout] at hr
    cases hr
    exact .inl rfl
  · have h0 : 0 ≤ base := by omega
    have hend : base + bytes.length ≤ p.progEnd := by omega
    rw [loadRom_of_fits htick hseed h0 hend] at hr
    cases hr
    exact .inr ⟨h0, hend, rfl⟩

/-- A host read answers with the state it was given. -/
theorem hostStep_read_state {a : Int} (hr : hostStep p (.read a) s = .next r) : r.state = s := by
  rw [hostStep] at hr
  cases hread : memRead p a s <;> rw [hread] at hr <;> cases hr <;> rfl

/-- A host tick answers with the state of its tick. -/
theorem hostStep_tick_state (hr : hostStep p .tick s = .next r) : tick p s = .next r.state := by
  rw [hostStep] at hr
  cases ht : tick p s <;> rw [ht] at hr <;> cases hr
  rfl

/-- Every host operation but a tick and a reset keeps its frame. -/
theorem hostStep_frame (hr : hostStep p op s = .next r) (htick : op ≠ .tick) (hreset : op ≠ .reset) :
    HostFrame op s r.state := by
  cases op with
  | tick => exact absurd rfl htick
  | reset => exact absurd rfl hreset
  | resume => cases hr; exact resume_hostFrame s
  | loadRom bytes base =>
    rcases loadRom_cases hr with e | ⟨-, -, e⟩ <;> rw [e]
    · exact {}
    · exact { mem := fun _ h => absurd rfl (h bytes base) }
  | read a => rw [hostStep_read_state hr]; exact {}
  | write a v => exact (memWrite_hostFrame a v).hostReturn hr
  | set8 n v => cases hr; exact hostFrame_writeReg8 _ n v s
  | set16 n v => exact (writeReg16_hostFrame _ n v).hostReturn hr
  | setTimer t v => cases hr; exact hostFrame_writeTimer _ t v s
  | timerTick => cases hr; exact { timerTicks := fun h => absurd rfl h }
  | setKeys => cases hr; exact {}
  | get8 | get16 | callStack | getTimer | soundOn | getKeys | readFb | tickCount | fault => cases hr; exact {}

end HostFrameRules

/-! ## The invariant through the host's operations -/

section HostInv

variable {p : Params} {op : HostOp} {s t : State} {r : HostResult}

/-- The schedule's invariant reads `FAULT`, `SEEDED`, `TICK` and the queue alone. -/
theorem ScheduleInv.congr (h : ScheduleInv s) (hfault : t.fault = s.fault) (hseeded : t.seeded = s.seeded)
    (htick : t.tickCount = s.tickCount) (hqueue : t.queue = s.queue) : ScheduleInv t := by
  obtain ⟨h1, h2, h3⟩ := h
  constructor <;> simpa only [hfault, hseeded, htick, hqueue]

/-- A resumed core's queue is empty, as the error left it (spec/60_exceptions.md R326, R330). -/
theorem ScheduleInv.resume (h : ScheduleInv s) : ScheduleInv (resume s) := by
  rcases resume_cases s with ⟨-, e⟩ | ⟨hf, e⟩ <;> rw [e]
  · exact h
  · exact ⟨fun _ => h.faultedIdle hf, fun _ => h.faultedIdle hf, fun _ hs => by simp at hs⟩

theorem DataInv.resume (h : DataInv p s) : DataInv p (resume s) := by
  rcases resume_cases s with ⟨-, e⟩ | ⟨-, e⟩ <;> rw [e]
  · exact h
  · exact h.congr

/-- Bytes stored within the address space leave memory canonical and within its size. -/
theorem DataInv.writeBytes {a : Nat} {bytes : List Byte} (h : DataInv p s) (ha : a + bytes.length ≤ p.memSize) :
    DataInv p { s with mem := s.mem.writeBytes a bytes } :=
  { h with
    memCanonical := Memory.wf_writeBytes a bytes h.memCanonical
    memInRange := fun x hx => by
      rcases Memory.mem_writeBytes hx with ⟨-, hlt⟩ | hx
      · omega
      · exact h.memInRange x hx }

theorem progEnd_le_memSize (hp : p.inRange = true) : p.progEnd ≤ p.memSize := by
  simp only [Params.inRange, Bool.and_eq_true, decide_eq_true_eq] at hp
  obtain ⟨⟨⟨⟨-, -⟩, hprog⟩, -⟩, -⟩ := hp
  exact hprog

theorem DataInv.loadRom {bytes : List Byte} {base : Int} (hp : p.inRange = true) (h : DataInv p s)
    (hr : loadRom p bytes base s = .next r) : DataInv p r.state := by
  have hprog := progEnd_le_memSize hp
  rcases loadRom_cases hr with e | ⟨h0, hend, e⟩ <;> rw [e]
  · exact h
  · exact h.writeBytes (by omega)

/-- The data invariant through a host operation: what it writes is checked, masked or not data of the invariant. -/
theorem DataInv.hostStep (hp : p.inRange = true) (h : DataInv p s) (hr : hostStep p op s = .next r)
    (htick : op ≠ .tick) (hreset : op ≠ .reset) : DataInv p r.state := by
  cases op with
  | tick => exact absurd rfl htick
  | reset => exact absurd rfl hreset
  | resume => cases hr; exact h.resume
  | loadRom bytes base => exact h.loadRom hp hr
  | read a => rw [hostStep_read_state hr]; exact h
  | write a v => exact (h.memWrite a v).hostReturn hr
  | set8 n v => cases hr; exact h.writeReg8 n v
  | set16 n v => exact (h.writeReg16 n v).hostReturn hr
  | setTimer t v => cases hr; cases t <;> exact h.congr
  | timerTick | setKeys => cases hr; exact h.congr
  | get8 | get16 | callStack | getTimer | soundOn | getKeys | readFb | tickCount | fault => cases hr; exact h

/-- The schedule's invariant through a host operation: only `resume` writes what it reads. -/
theorem ScheduleInv.hostStep (h : ScheduleInv s) (hr : hostStep p op s = .next r) (htick : op ≠ .tick)
    (hreset : op ≠ .reset) : ScheduleInv r.state := by
  by_cases hresume : op = .resume
  · subst hresume
    cases hr
    exact h.resume
  · have hframe := hostStep_frame hr htick hreset
    exact h.congr (hframe.fault hresume) (hframe.seeded hresume) hframe.tickCount hframe.queue

/-- A reset core is one at power-on with the memory it had (spec/70_reset_and_hazards.md R370). -/
theorem Inv.resetCore (hp : p.inRange = true) (h : Inv p s) : Inv p (resetCore p s) :=
  { inv_powerOn hp with memCanonical := h.memCanonical, memInRange := h.memInRange }

end HostInv

/-- Settles O31: a tick and a reset by their own lemmas, every other operation in the two halves of the invariant. -/
theorem hostOperationsKeepInv : Obligations.HostOperationsKeepInv := by
  intro p op s r hp h hr
  by_cases htick : op = .tick
  · subst htick
    exact h.tick (hostStep_tick_state hr)
  by_cases hreset : op = .reset
  · subst hreset
    cases hr
    exact h.resetCore hp
  obtain ⟨hd, hq⟩ := (inv_iff p s).1 h
  exact (inv_iff p r.state).2 ⟨hd.hostStep hp hr htick hreset, hq.hostStep hr htick hreset⟩

/-- Settles O24: the frame of each operation, apart from ticks and resets. -/
theorem hostOperationsFrame : Obligations.HostOperationsFrame := by
  intro p op s r hr htick hreset
  obtain ⟨hext, hqueue, hstack, hcount, hfb, hseeded, hfault, htimer, hmem⟩ := hostStep_frame hr htick hreset
  exact ⟨hext, hqueue, hstack, hcount, hfb, fun h => ⟨hseeded h, hfault h⟩, htimer, hmem⟩

end Sys2Proof.Machine

/-! ## Taking an error -/

namespace Sys2Proof.Machine

/-- The operation completes, or raises and commits nothing (spec/00_scope.md R15); it is not refused. -/
def OpResult.Atomic (s : State) : OpResult → Prop
  | .done _ => True
  | .raised _ t => t = s
  | .refused _ => False

section Atomic

variable {p : Params} {s : State}

theorem setPC_atomic (v : Int) : (setPC p v s).Atomic s := by
  rcases setPC_cases p v s with ⟨-, -, e⟩ | ⟨-, e⟩ <;> rw [e]
  · trivial
  · exact rfl

theorem setSP_atomic (v : Int) : (setSP p v s).Atomic s := by
  rcases setSP_cases p v s with ⟨-, -, e⟩ | ⟨-, e⟩ <;> rw [e]
  · trivial
  · exact rfl

theorem writeReg16_atomic (n : Reg16) (v : Word) : (writeReg16 p n v s).Atomic s := by
  cases n with
  | pc => exact setPC_atomic _
  | sp => exact setSP_atomic _
  | bus | af | bc | de | hl | tmp => trivial

theorem memWrite_atomic (a : Int) (v : Byte) : (memWrite p a v s).Atomic s := by
  rcases memWrite_cases p a v s with ⟨-, -, -, e⟩ | ⟨-, e⟩ <;> rw [e]
  · trivial
  · exact rfl

theorem pushPC_atomic : (pushPC p s).Atomic s := by
  rcases push_cases p s.pc s with ⟨-, e⟩ | ⟨-, e⟩ <;> rw [pushPC, e]
  · trivial
  · exact rfl

theorem popPC_atomic : (popPC p s).Atomic s := by
  rcases popPC_cases p s with ⟨-, e⟩ | ⟨_, _, -, -, e⟩ | ⟨_, _, -, -, e⟩ <;> rw [e]
  · exact rfl
  · trivial
  · exact rfl

theorem transfer_load_atomic (q : Reg16) (n : Reg8) : (transfer p (.mem q) (.reg8 n) s).Atomic s := by
  rcases memRead_cases p (readReg16 q s).toNat s with ⟨-, -, e⟩ | ⟨-, e⟩ <;> simp only [transfer, e]
  · trivial
  · exact rfl

/-- A transfer of equal widths reads and checks before it writes (spec/40_pipeline.md R153). -/
theorem transfer_atomic {src dst : Endpoint} (h : (MicroOp.transfer src dst).wellFormed = true) :
    (transfer p src dst s).Atomic s := by
  cases src <;> cases dst
  case reg8.reg8 => trivial
  case reg8.mem => exact memWrite_atomic _ _
  case mem.reg8 q n => exact transfer_load_atomic q n
  case reg16.reg16 => exact writeReg16_atomic _ _
  all_goals simp [MicroOp.wellFormed] at h

theorem runEffect_atomic {e : Effect} (h : e ≠ .fde) : (runEffect p e s).Atomic s := by
  cases e with
  | fde => exact absurd rfl h
  | incPC | jumpRel => exact setPC_atomic _
  | inc8 | dec8 | alu | rotA | cb | clearFB => trivial
  | inc16 | dec16 => exact writeReg16_atomic _ _
  | pushPC => exact pushPC_atomic
  | popPC => exact popPC_atomic

/-- Every width-correct micro-operation but a boundary completes, or raises and commits nothing. -/
theorem runOp_atomic {op : MicroOp} (hfde : op ≠ .effect .fde) (hwf : op.wellFormed = true) :
    (runOp p op s).Atomic s := by
  cases op with
  | transfer src dst => exact transfer_atomic hwf
  | effect e => exact runEffect_atomic fun he => hfde (by rw [he])

/-- A transfer that breaks the width rule is refused (R152). -/
theorem runOp_of_illFormed {op : MicroOp} (h : op.wellFormed = false) :
    runOp p op s = .refused .illFormedTransfer := by
  cases op with
  | effect e => simp [MicroOp.wellFormed] at h
  | transfer src dst =>
    cases src <;> cases dst
    case reg8.reg8 | reg8.mem | mem.reg8 | reg16.reg16 => simp [MicroOp.wellFormed] at h
    all_goals rfl

/-- A micro-operation other than a boundary commits nothing when it raises. -/
theorem eq_of_runOp_raised {op : MicroOp} {e : CoreError} {t : State} (h : op ≠ .effect .fde)
    (hr : runOp p op s = .raised e t) : t = s := by
  cases hwf : op.wellFormed with
  | false => rw [runOp_of_illFormed hwf] at hr; cases hr
  | true =>
    have hatomic : (runOp p op s).Atomic s := runOp_atomic h hwf
    rw [hr] at hatomic
    exact hatomic

/-- A boundary issues an instruction, or raises with at most `EXT` cleared (spec/40_pipeline.md R167, R168). -/
theorem fetchDecodeExecute_cases (p : Params) (s : State) :
    (∃ i : Instr, fetchDecodeExecute p s = .done (issue i.descriptor s)) ∨
      ∃ e b, fetchDecodeExecute p s = .raised e { s with ext := b } := by
  rcases memRead_cases p s.pc.toNat s with ⟨-, -, hread⟩ | ⟨-, hread⟩
  · cases hrom : p.rom s.ext (s.mem.read (s.pc.toNat : Int).toNat) with
    | none => exact .inr ⟨_, false, by simp only [fetchDecodeExecute, fetchDecode, hread, hrom]; rfl⟩
    | some i => exact .inl ⟨i, by simp only [fetchDecodeExecute, fetchDecode, hread, hrom]⟩
  · exact .inr ⟨_, s.ext, by simp only [fetchDecodeExecute, fetchDecode, hread]; rfl⟩

/-- A boundary that raises commits nothing but the `EXT` of its failed decode (R168, assumption log 5). -/
theorem eq_of_fetch_raised {e : CoreError} {t : State} (hr : runOp p (.effect .fde) s = .raised e t) :
    t = { s with ext := t.ext } := by
  rw [runOp, runEffect] at hr
  rcases fetchDecodeExecute_cases p s with ⟨i, h⟩ | ⟨_, b, h⟩ <;> rw [h] at hr <;> cases hr
  rfl

/-- No micro-operation writes the tick counter. -/
theorem runOp_tickCount (op : MicroOp) : (runOp p op s).Holds fun t => t.tickCount = s.tickCount := by
  by_cases h : op = .effect .fde
  · subst h
    exact fetchDecodeExecute_holds rfl rfl fun _ => rfl
  · have hsame : runOp p op s = (runOp p op s).map (State.withSchedule s.tickCount s.queue) :=
      runOp_withSchedule p s.tickCount s.queue op s h
    rw [hsame]
    cases runOp p op s <;> trivial

theorem runOps_tickCount (ops : List MicroOp) : (runOps p ops s).Holds fun t => t.tickCount = s.tickCount :=
  runOps_holds (fun op _ h => (runOp_tickCount op).imp fun _ ht => ht.trans h) ops rfl

/-- Operations run up to the one that raises; what follows it is not run (spec/60_exceptions.md R328). -/
theorem runOps_append_raised {before after : List MicroOp} {op : MicroOp} {e : CoreError} {s₁ s₂ : State}
    (hbefore : runOps p before s = .done s₁) (hop : runOp p op s₁ = .raised e s₂) :
    runOps p (before ++ op :: after) s = .raised e s₂ := by
  induction before generalizing s with
  | nil => cases hbefore; simp only [List.nil_append, runOps, hop]
  | cons x before ih =>
    rw [runOps] at hbefore
    cases hx : runOp p x s with
    | done u => rw [hx] at hbefore; simp only [List.cons_append, runOps, hx, ih hbefore]
    | raised | refused => rw [hx] at hbefore; cases hbefore

end Atomic

/-- Once its first tick is past, a running core's tick is the operations due (spec/40_pipeline.md R165). -/
theorem tick_of_seeded {p : Params} {s : State} (hf : s.fault = none) (hs : s.seeded = true) :
    tick p s = endTick (runDue p s) := by
  simp only [tick, faulted_eq_false.2 hf, seed, hs, Bool.false_eq_true, if_false, if_true]

theorem runDue_tickCount (p : Params) (s : State) : (runDue p s).Holds fun t => t.tickCount = s.tickCount :=
  runOps_tickCount (s := { s with queue := notDueAt s.tickCount s.queue }) _

/-- A host tick answers with the state of its tick, and with the error latched there, if any (R165). -/
theorem hostStep_tick_of_next {p : Params} {s t : State} (h : tick p s = .next t) :
    hostStep p .tick s = .next { state := t, reply := tickReply t } := by
  rw [hostStep, h]

/-- Settles O18: the operations due run up to the one that raises, and the tick ends by taking its error. -/
theorem takingAnError : Obligations.TakingAnError := by
  intro p s s₁ s₂ before after op e hf hs hdue hbefore hop
  have hrun : runDue p s = .raised e s₂ := by rw [runDue, hdue]; exact runOps_append_raised hbefore hop
  have hcount : s₂.tickCount = s.tickCount := by
    have h := runDue_tickCount p s
    rw [hrun] at h
    exact h
  have htick : tick p s = .next (takeError e s₂) := by rw [tick_of_seeded hf hs, hrun]; rfl
  refine ⟨?_, fun hfde => eq_of_runOp_raised hfde hop, ?_⟩
  · rw [hostStep_tick_of_next htick, ← hcount]
    rfl
  · rintro rfl
    exact eq_of_fetch_raised hop

/-! ## Nothing is stuck -/

section Answers

variable {p : Params} {s : State}

/-- Width-correct micro-operations, none of them a boundary, are never refused. -/
theorem runOps_ne_refused {ops : List MicroOp} (h : ∀ op ∈ ops, op ≠ .effect .fde ∧ op.wellFormed = true)
    (r : Refusal) : runOps p ops s ≠ .refused r := by
  induction ops generalizing s with
  | nil => simp [runOps]
  | cons op ops ih =>
    obtain ⟨hfde, hwf⟩ := h op (by simp)
    have hatomic : (runOp p op s).Atomic s := runOp_atomic hfde hwf
    rw [runOps]
    cases hr : runOp p op s with
    | done t => exact ih fun x hx => h x (by simp [hx])
    | raised => simp
    | refused => rw [hr] at hatomic; exact hatomic.elim

/-- A plan of such micro-operations reaches its next boundary or its error. -/
theorem runPlan_answers {now dur : Nat} {ops : List (Nat × MicroOp)}
    (h : ∀ x ∈ ops, x.2 ≠ .effect .fde ∧ x.2.wellFormed = true) : ∃ t, runPlan p now dur ops s = .next t := by
  induction ops generalizing s with
  | nil => exact ⟨_, rfl⟩
  | cons x ops ih =>
    obtain ⟨k, op⟩ := x
    obtain ⟨hfde, hwf⟩ := h (k, op) (by simp)
    have hatomic : (runOp p op s).Atomic s := runOp_atomic hfde hwf
    rw [runPlan]
    cases hr : runOp p op s with
    | done t => exact ih fun x hx => h x (by simp [hx])
    | raised => exact ⟨_, rfl⟩
    | refused => rw [hr] at hatomic; exact hatomic.elim

/-- Every instruction answers in every state: its plan meets the handler contract. -/
theorem exec_answers (i : Instr) (s : State) : ∃ t, exec i s = .next t := by
  by_cases hf : s.fault = none
  · rw [exec_eq_runPlan i hf]
    refine runPlan_answers fun x hx => ?_
    rcases List.mem_cons.1 hx with rfl | hx
    · exact ⟨by simp, rfl⟩
    · obtain ⟨-, -, hfde, hwf⟩ := planFor_mem hx
      exact ⟨hfde, hwf⟩
  · rw [exec_eq_runDescriptor, runDescriptor_of_faulted _ hf]
    exact ⟨s, rfl⟩

/-- Between boundaries a tick answers where what is due is width-correct. -/
theorem tick_between_answers (hf : s.fault = none) (hs : s.seeded = true)
    (hdue : ∀ op ∈ dueAt s.tickCount s.queue, op ≠ .effect .fde ∧ op.wellFormed = true) :
    ∃ t, tick p s = .next t := by
  rw [tick_between p hf hs fun op hop => (hdue op hop).1]
  cases hr : runOps p (dueAt s.tickCount s.queue) s with
  | done | raised => exact ⟨_, rfl⟩
  | refused r => exact absurd hr (runOps_ne_refused hdue r)

/-- At a boundary a step answers: an instruction, or the error of an unknown opcode. -/
theorem step_atBoundary_answers (hf : s.fault = none) (hb : s.atBoundary = true) : ∃ t, step s = .next t := by
  cases hi : referenceRom s.ext (s.byteAt 0) with
  | none => exact ⟨_, step_of_unknown_eq_errorAt hf hb hi⟩
  | some i => rw [step_of_decoded hf hb hi]; exact exec_answers i s

end Answers

/-- Settles O32: the invariant leaves only width-correct operations due between boundaries. -/
theorem nothingIsStuck : Obligations.NothingIsStuck := by
  refine ⟨exec_answers, fun s h => ?_⟩
  by_cases hf : s.fault = none
  · cases hb : s.atBoundary with
    | true => exact step_atBoundary_answers hf hb
    | false =>
      rcases ((inv_iff _ s).1 h).2.cases hf with hb' | ⟨hs, hdue, -⟩
      · rw [hb] at hb'; cases hb'
      · rw [step_between hf hb]; exact tick_between_answers hf hs hdue
  · exact ⟨s, step_of_faulted hf⟩

/-- Settles O34: the boundary's own tick latches the byte that has no entry. -/
theorem stepOnUnknownOpcode : Obligations.StepOnUnknownOpcode := by
  intro s hf hb hi
  exact step_of_unknown_eq_errorAt hf hb hi

/-! ## Returning from an error, and the timer domain -/

/-- A core waiting for its first tick, with nothing pending, is at a boundary (spec/40_pipeline.md R166). -/
theorem atBoundary_of_unseeded {s : State} (hs : s.seeded = false) (hq : s.queue = []) : s.atBoundary = true := by
  simp [State.atBoundary, hs, hq]

/-- A timer counts down by one and stays at 0 (spec/60_exceptions.md R340). -/
theorem toNat_countDown (v : BitVec 8) : (if v = 0 then 0 else v - 1).toNat = v.toNat - 1 := by
  split
  · next h => rw [h]; rfl
  · next h => bv_omega

namespace Settled

/-- Settles O20: what is cleared makes the next tick a seeding one. -/
theorem resume : Obligations.Resume := by
  intro p s
  refine ⟨fun hf => ?_, fun hf => ⟨?_, rfl, fun hq => atBoundary_of_unseeded rfl hq⟩⟩
  · rw [hostStep, resume_of_not_faulted s hf]
  · rw [hostStep, resume_of_faulted s hf]

/-- Settles O22: both timers count down by the same rule. -/
theorem timerTick : Obligations.TimerTick := by
  intro p s
  exact ⟨_, _, rfl, toNat_countDown s.dt, toNat_countDown s.st⟩

end Settled

end Sys2Proof.Machine

/-! ## The latched error and the timer domain stand apart -/

namespace Sys2Proof.Machine

/-- `g` changes nothing but the latched error and the timer domain, which no micro-operation reads or writes
(spec/60_exceptions.md R327, R342). -/
def Outside (g : State → State) : Prop :=
  ∃ (err : Option CoreError → Option CoreError) (dt st : BitVec timerWidth → BitVec timerWidth) (n : Nat → Nat),
    g = fun s => { s with fault := err s.fault, dt := dt s.dt, st := st s.st, timerTicks := n s.timerTicks }

/-- `s` with another latched error. -/
def State.withFault (err : Option CoreError) (s : State) : State := { s with fault := err }

/-- `s` with another timer domain. -/
def State.withTimers (dt st : BitVec timerWidth) (n : Nat) (s : State) : State :=
  { s with dt := dt, st := st, timerTicks := n }

theorem outside_withFault (err : Option CoreError) : Outside (State.withFault err) := ⟨fun _ => err, id, id, id, rfl⟩

theorem outside_withTimers (dt st : BitVec timerWidth) (n : Nat) : Outside (State.withTimers dt st n) :=
  ⟨id, fun _ => dt, fun _ => st, fun _ => n, rfl⟩

/-! ### Each operation runs the same under such a change -/

section OutsideRules

variable {g : State → State} {p : Params}

theorem readReg8_outside (hg : Outside g) (n : Reg8) (s : State) : readReg8 n (g s) = readReg8 n s := by
  obtain ⟨_, _, _, _, rfl⟩ := hg
  cases n <;> rfl

theorem readReg16_outside (hg : Outside g) (n : Reg16) (s : State) : readReg16 n (g s) = readReg16 n s := by
  obtain ⟨_, _, _, _, rfl⟩ := hg
  cases n <;> rfl

theorem writeReg8_outside (hg : Outside g) (n : Reg8) (v : Byte) (s : State) :
    writeReg8 n v (g s) = g (writeReg8 n v s) := by
  obtain ⟨_, _, _, _, rfl⟩ := hg
  cases n <;> rfl

theorem writeResult_outside (hg : Outside g) (n : Reg8) (r : ByteResult) (s : State) :
    writeResult n r (g s) = g (writeResult n r s) := by
  rw [writeResult, writeReg8_outside hg, writeReg8_outside hg, writeResult]

theorem setPC_outside (hg : Outside g) (v : Int) (s : State) : setPC p v (g s) = (setPC p v s).map g := by
  obtain ⟨_, _, _, _, rfl⟩ := hg
  rw [setPC, setPC]
  split <;> rfl

theorem setSP_outside (hg : Outside g) (v : Int) (s : State) : setSP p v (g s) = (setSP p v s).map g := by
  obtain ⟨_, _, _, _, rfl⟩ := hg
  rw [setSP, setSP]
  split <;> rfl

theorem writeReg16_outside (hg : Outside g) (n : Reg16) (v : Word) (s : State) :
    writeReg16 p n v (g s) = (writeReg16 p n v s).map g := by
  cases n with
  | pc => exact setPC_outside hg _ s
  | sp => exact setSP_outside hg _ s
  | bus => obtain ⟨_, _, _, _, rfl⟩ := hg; rfl
  | af | bc | de | hl | tmp => simp only [writeReg16, writeReg8_outside hg, OpResult.map]

theorem memRead_outside (hg : Outside g) (a : Int) (s : State) : memRead p a (g s) = memRead p a s := by
  obtain ⟨_, _, _, _, rfl⟩ := hg
  rfl

theorem memWrite_outside (hg : Outside g) (a : Int) (v : Byte) (s : State) :
    memWrite p a v (g s) = (memWrite p a v s).map g := by
  obtain ⟨_, _, _, _, rfl⟩ := hg
  rw [memWrite, memWrite]
  split
  · split <;> rfl
  · rfl

theorem push_outside (hg : Outside g) (a : Word) (s : State) : push p a (g s) = (push p a s).map g := by
  obtain ⟨_, _, _, _, rfl⟩ := hg
  rw [push, push]
  split <;> rfl

theorem popPC_outside (hg : Outside g) (s : State) : popPC p (g s) = (popPC p s).map g := by
  have hset := fun v => setPC_outside (p := p) hg v s
  obtain ⟨_, _, _, _, rfl⟩ := hg
  rw [popPC, popPC]
  cases s.callStack.getLast? with
  | none => rfl
  | some w =>
    simp only [hset]
    cases setPC p w.toNat s <;> rfl

theorem transfer_outside (hg : Outside g) (src dst : Endpoint) (s : State) :
    transfer p src dst (g s) = (transfer p src dst s).map g := by
  cases src <;> cases dst
  case reg8.reg8 m n => simp only [transfer, readReg8_outside hg, writeReg8_outside hg, OpResult.map]
  case reg8.mem m q => simp only [transfer, readReg16_outside hg, readReg8_outside hg, memWrite_outside hg]
  case mem.reg8 q n =>
    simp only [transfer, readReg16_outside hg, memRead_outside hg]
    cases memRead p (readReg16 q s).toNat s with
    | ok v => simp only [writeReg8_outside hg, OpResult.map]
    | error e => rfl
  case reg16.reg16 m n => simp only [transfer, readReg16_outside hg, writeReg16_outside hg]
  all_goals rfl

theorem fetchDecodeExecute_outside (hg : Outside g) (s : State) :
    fetchDecodeExecute p (g s) = (fetchDecodeExecute p s).map g := by
  have hread := memRead_outside (p := p) hg s.pc.toNat s
  obtain ⟨_, _, _, _, rfl⟩ := hg
  simp only [fetchDecodeExecute, fetchDecode, hread]
  cases memRead p s.pc.toNat s with
  | error e => rfl
  | ok b => cases hrom : p.rom s.ext b <;> simp only [hrom] <;> rfl

theorem runEffect_outside (hg : Outside g) (e : Effect) (s : State) :
    runEffect p e (g s) = (runEffect p e s).map g := by
  have hpc : (g s).pc = s.pc := readReg16_outside hg .pc s
  cases e with
  | fde => exact fetchDecodeExecute_outside hg s
  | incPC => simp only [runEffect, incPC, hpc, setPC_outside hg]
  | jumpRel => simp only [runEffect, jumpRel, hpc, readReg8_outside hg, setPC_outside hg]
  | inc8 r => simp only [runEffect, effectInc8, readReg8_outside hg, writeResult_outside hg, OpResult.map]
  | dec8 r => simp only [runEffect, effectDec8, readReg8_outside hg, writeResult_outside hg, OpResult.map]
  | inc16 rr => simp only [runEffect, effectInc16, readReg16_outside hg, writeReg16_outside hg]
  | dec16 rr => simp only [runEffect, effectDec16, readReg16_outside hg, writeReg16_outside hg]
  | alu op n => simp only [runEffect, effectAlu, readReg8_outside hg, writeResult_outside hg, OpResult.map]
  | rotA op => simp only [runEffect, effectRotA, readReg8_outside hg, writeResult_outside hg, OpResult.map]
  | cb op n => simp only [runEffect, effectCb, readReg8_outside hg, writeResult_outside hg, OpResult.map]
  | pushPC => simp only [runEffect, pushPC, hpc, push_outside hg]
  | popPC => exact popPC_outside hg s
  | clearFB => obtain ⟨_, _, _, _, rfl⟩ := hg; rfl

theorem runOp_outside (hg : Outside g) (op : MicroOp) (s : State) : runOp p op (g s) = (runOp p op s).map g := by
  cases op with
  | transfer src dst => exact transfer_outside hg src dst s
  | effect e => exact runEffect_outside hg e s

theorem runOps_outside (hg : Outside g) (ops : List MicroOp) (s : State) :
    runOps p ops (g s) = (runOps p ops s).map g := by
  induction ops generalizing s with
  | nil => rfl
  | cons op ops ih =>
    rw [runOps, runOps, runOp_outside hg]
    cases runOp p op s with
    | done t => exact ih t
    | raised | refused => rfl

end OutsideRules

/-! ### A tick and the timer domain -/

section Timers

variable (p : Params) (dt st : BitVec timerWidth) (n : Nat)

theorem seed_withTimers (s : State) : seed p (s.withTimers dt st n) = (seed p s).map (State.withTimers dt st n) := by
  cases hs : s.seeded with
  | true => simp only [seed, State.withTimers, hs, if_true, OpResult.map]
  | false =>
    simp only [seed, State.withTimers, hs, Bool.false_eq_true, if_false]
    exact fetchDecodeExecute_outside (outside_withTimers dt st n) { s with seeded := true }

theorem runDue_withTimers (s : State) :
    runDue p (s.withTimers dt st n) = (runDue p s).map (State.withTimers dt st n) :=
  runOps_outside (outside_withTimers dt st n) _ { s with queue := notDueAt s.tickCount s.queue }

theorem endTick_withTimers (r : OpResult) :
    endTick (r.map (State.withTimers dt st n)) = mapNext (State.withTimers dt st n) (endTick r) := by
  cases r <;> rfl

/-- A tick runs the same whatever the timer domain holds, and leaves it (spec/60_exceptions.md R342). -/
theorem tick_withTimers (s : State) :
    tick p (s.withTimers dt st n) = mapNext (State.withTimers dt st n) (tick p s) := by
  have hfault : (s.withTimers dt st n).fault = s.fault := rfl
  by_cases hf : s.fault = none
  · simp only [tick, faulted_eq_false.2 hf, faulted_eq_false.2 (hfault.trans hf), seed_withTimers, Bool.false_eq_true,
      if_false]
    cases seed p s with
    | done t =>
      simp only [OpResult.map, runDue_withTimers]
      exact endTick_withTimers dt st n (runDue p t)
    | raised | refused => rfl
  · rw [tick_of_faulted hf, tick_of_faulted (by rwa [hfault])]
    rfl

end Timers

/-- Settles O23: a tick commutes with every change of the timer domain, its own value among them. -/
theorem timersAreIndependent : Obligations.TimersAreIndependent := by
  intro p s
  refine ⟨fun dt st n => tick_withTimers p dt st n s, fun t ht => ?_, fun u => rfl⟩
  have hown : tick p s = mapNext (State.withTimers s.dt s.st s.timerTicks) (tick p s) :=
    tick_withTimers p s.dt s.st s.timerTicks s
  rw [ht] at hown
  rw [Host.Outcome.next.inj hown]
  exact ⟨rfl, rfl, rfl⟩

/-! ### The host's operations and the latched error -/

theorem hostReturn_map (g : State → State) (r : OpResult) : hostReturn (r.map g) = mapHost g (hostReturn r) := by
  cases r <;> rfl

/-- Every operation that is not about the latched error does what it does without one (R327). -/
theorem hostStep_withFault {p : Params} {op : HostOp} (err : Option CoreError) (s : State) (htick : op ≠ .tick)
    (hresume : op ≠ .resume) (hreset : op ≠ .reset) (hfault : op ≠ .fault) :
    hostStep p op (s.withFault err) = mapHost (State.withFault err) (hostStep p op s) := by
  have hg := outside_withFault err
  cases op with
  | tick => exact absurd rfl htick
  | resume => exact absurd rfl hresume
  | reset => exact absurd rfl hreset
  | fault => exact absurd rfl hfault
  | loadRom bytes base =>
    simp only [hostStep, loadRom, apply_ite (mapHost (State.withFault err))]
    rfl
  | get8 n => rw [hostStep, readReg8_outside hg]; rfl
  | get16 n => rw [hostStep, readReg16_outside hg]; rfl
  | set8 n v => rw [hostStep, writeReg8_outside hg]; rfl
  | set16 n v => rw [hostStep, writeReg16_outside hg, hostReturn_map]; rfl
  | read a =>
    rw [hostStep, memRead_outside hg, hostStep]
    cases memRead p a s <;> rfl
  | write a v => rw [hostStep, memWrite_outside hg, hostReturn_map]; rfl
  | getTimer t | setTimer t => cases t <;> rfl
  | callStack | timerTick | soundOn | setKeys | getKeys | readFb | tickCount => rfl

/-- Settles O19: a tick stops at the latched error, `resume` and `reset` write it, and nothing else reads it. -/
theorem faultedCore : Obligations.FaultedCore := by
  intro p s e hf
  have hlatched : s.fault ≠ none := by simp [hf]
  have hself : (s.withFault none).withFault (some e) = s := by rw [← hf]; rfl
  have htick : tick p s = .next s := tick_of_faulted hlatched
  refine ⟨?_, fun op r hr hresume hreset => ?_, fun op r hr hop => ?_, fun op h1 h2 h3 h4 => ?_, rfl⟩
  · rw [hostStep_tick_of_next htick, tickReply, hf]
  · by_cases hop : op = .tick
    · subst hop
      rw [hostStep_tick_of_next htick] at hr
      cases hr
      exact hf
    · exact ((hostStep_frame hr hop hreset).fault hresume).trans hf
  · rcases hop with rfl | rfl
    · rw [hostStep, resume_of_faulted s hlatched] at hr
      cases hr
      rfl
    · cases hr
      rfl
  · have h := hostStep_withFault (p := p) (some e) (s.withFault none) h1 h2 h3 h4
    rw [hself] at h
    exact h

end Sys2Proof.Machine

/-! ## The host's accessors -/

namespace Sys2Proof.Machine

/-! ### Names read back what was set -/

theorem cell_setCell_same (n : Reg8) (v : Byte) (s : State) :
    (s.setCell n v).cell n = if n = .f then v &&& 0xF0 else v := by
  rw [← readReg8_eq_cell, ← writeReg8_eq_setCell, readReg8_writeReg8_same]
  rfl

theorem cell_setCell_other {k n : Reg8} (h : k ≠ n) (v : Byte) (s : State) : (s.setCell n v).cell k = s.cell k := by
  rw [← readReg8_eq_cell, ← writeReg8_eq_setCell, readReg8_writeReg8_other v s h, readReg8_eq_cell]

/-- The two bytes of a word, joined again. -/
theorem extract_hi_append_lo (v : Word) : v.extractLsb' 8 8 ++ v.extractLsb' 0 8 = v := by
  rw [← joinBytes_eq_append]
  exact joinBytes_hiByte_loByte v

/-- Masking the low byte of a word is masking the word. -/
theorem extract_hi_append_maskF_lo (v : Word) :
    v.extractLsb' 8 8 ++ (v.extractLsb' 0 8 &&& (0xF0 : Byte) &&& 0xF0) = v &&& 0xFFF0 := by
  have hmask : (0xFFF0 : Word) = (0xFF : Byte) ++ (0xF0 : Byte) := by decide
  conv_rhs => rw [← extract_hi_append_lo v, hmask, BitVec.and_append]
  rw [BitVec.and_assoc]
  congr 1
  exact (BitVec.and_allOnes).symm

theorem wide_setWide (n : Reg16) (v : Word) (s : State) :
    (s.setWide n v).wide n = if n = .af then v &&& 0xFFF0 else v := by
  cases n with
  | pc | sp | bus => rfl
  | bc | de | hl | tmp => exact extract_hi_append_lo v
  | af => exact extract_hi_append_maskF_lo v

section Accessors

variable {p : Params} {s : State} {n : Reg16} {v : Word}

/-- A 16-bit name takes a value within its range (spec/10_state.md R33, R44). -/
theorem writeReg16_eq_setWide (h : n = .pc ∨ n = .sp → v.toNat < p.memSize) :
    writeReg16 p n v s = .done (s.setWide n v) := by
  have hword : BitVec.ofInt 16 (v.toNat : Int) = v := by simp
  cases n with
  | pc =>
    have hlt := h (.inl rfl)
    rw [writeReg16, setPC_of_inRange (by omega) (by omega), hword]
    rfl
  | sp =>
    have hlt := h (.inr rfl)
    rcases setSP_cases p v.toNat s with ⟨-, -, e⟩ | ⟨hout, -⟩
    · rw [writeReg16, e, hword]
      rfl
    · omega
  | bus | af | bc | de | hl | tmp => rfl

/-- `PC` and `SP` take no address outside memory (R44). -/
theorem writeReg16_of_outside (hn : n = .pc ∨ n = .sp) (h : p.memSize ≤ v.toNat) :
    writeReg16 p n v s = .raised (.outOfRangeAccess v.toNat) s := by
  rcases hn with rfl | rfl
  · exact setPC_of_outside (by omega)
  · rcases setSP_cases p v.toNat s with ⟨-, hlt, -⟩ | ⟨-, e⟩
    · omega
    · exact e

end Accessors

/-- Settles O25: names, memory, and then the pieces of state that an accessor returns as they are. -/
theorem hostAccessors : Obligations.HostAccessors := by
  intro p s
  refine ⟨fun n => ?_, fun n => ?_, fun n v => ⟨?_, cell_setCell_same n v s, fun k hk => cell_setCell_other hk v s⟩,
    fun n v hn h => ?_, fun n v h => ⟨?_, wide_setWide n v s⟩, fun a h0 h1 => ?_, fun a h => ?_,
    fun a v h0 h1 hw => ⟨_, ?_, storesAt_write _ _ v⟩, fun a v h => ?_, fun _ => rfl, fun _ => rfl, rfl, rfl,
    fun _ => rfl, rfl, rfl, fun _ _ => rfl, rfl, rfl, rfl⟩
  · rw [hostStep, readReg8_eq_cell]
  · rw [hostStep, readReg16_eq_wide]
  · rw [hostStep, writeReg8_eq_setCell]
  · rw [hostStep, writeReg16_of_outside hn h, hostReturn]
  · rw [hostStep, writeReg16_eq_setWide h, hostReturn]
  · rw [hostStep, memRead_of_inRange h0 h1]
  · rw [hostStep, memRead_of_outside (by omega)]
  · rw [hostStep, memWrite_of_working h0 h1 hw, hostReturn]
  · rw [hostStep, memWrite_of_not_working (by omega), hostReturn]

end Sys2Proof.Machine

/-! ## The tick counter -/

namespace Sys2Proof.Machine

section TickCount

variable {p : Params} {s t : State}

/-- The first tick's fetch writes no tick counter (spec/40_pipeline.md R166). -/
theorem seed_tickCount (p : Params) (s : State) : (seed p s).Holds fun t => t.tickCount = s.tickCount := by
  cases hs : s.seeded with
  | true => rw [seed, hs]; exact rfl
  | false => rw [seed, hs]; exact fetchDecodeExecute_holds rfl rfl fun _ => rfl

/-- The end of a tick counts it, whether the operations completed or raised (R165, spec/60_exceptions.md R326). -/
theorem endTick_tickCount {r : OpResult} {n : Nat} (hr : r.Holds fun u => u.tickCount = n)
    (ht : endTick r = .next t) : t.tickCount = n + 1 := by
  cases r with
  | done u | raised e u => cases ht; exact congrArg (· + 1) hr
  | refused r => cases ht

/-- A tick of a running core counts itself once, at its end: neither its seeding nor its drain writes the counter. -/
theorem tick_tickCount (hf : s.fault = none) (ht : tick p s = .next t) : t.tickCount = s.tickCount + 1 := by
  have hseed := seed_tickCount p s
  simp only [tick, faulted_eq_false.2 hf, Bool.false_eq_true, if_false] at ht
  cases hs : seed p s with
  | done u =>
    rw [hs] at ht hseed
    have hu : u.tickCount = s.tickCount := hseed
    exact hu ▸ endTick_tickCount (runDue_tickCount p u) ht
  | raised | refused =>
    rw [hs] at ht hseed
    exact endTick_tickCount hseed ht

end TickCount

/-- Settles O26: ticks by the core's latch, the reset by its value, every other host operation by its frame. -/
theorem tickCounter : Obligations.TickCounter := by
  intro p s
  refine ⟨fun t ht hf => tick_tickCount hf ht, fun t ht hf => ?_,
    fun op r hr htick hreset => (hostStep_frame hr htick hreset).tickCount, fun r hr => ?_⟩
  · rw [tick_of_faulted hf] at ht
    cases ht
    rfl
  · cases hr
    rw [resetCore_tickCount, powerOn_tickCount]

end Sys2Proof.Machine

/-! ## Reset -/

namespace Sys2Proof.Machine

/-- A reset state depends on the memory alone of what came before it, and keeps that (R370). -/
theorem resetCore_congr {s t : State} (p : Params) (h : t.mem = s.mem) : resetCore p t = resetCore p s := by
  rw [resetCore, resetCore, h]

/-- Resetting twice is resetting once (R371): the first reset keeps the memory that the second one reads. -/
theorem resetCore_idempotent (p : Params) (s : State) : resetCore p (resetCore p s) = resetCore p s :=
  resetCore_congr p (resetCore_mem s p)

/-- Settles O6: every cell is the power-on one, the framebuffer is clear, and memory is what it was. -/
theorem resetProcedure : Obligations.ResetProcedure := by
  intro p s
  refine ⟨⟨resetCore p s, rfl, ?_⟩, resetCore_idempotent p s⟩
  have hpixels (row : Fin fbRows) (col : Fin fbCols) : pixel (resetCore p s) row col = false :=
    pixel_of_clear (by rw [resetCore_fb, powerOn_fb]) row col
  simp [hpixels]

end Sys2Proof.Machine
